-- ==== Sys2Proof/Word.lean ====
section
/-! DEFINITION. The words of the three ports and the numeric carrier NUM of the Hera voice engine (HVE). -/

namespace Sys2Proof

/-- One byte of a serialised word (R62). -/
abbrev Byte := BitVec 8

/-- An 8-bit field of a port word (R81, R92). -/
abbrev Word8 := BitVec 8

/-- A 16-bit field of a port word, or one PCM sample (R81, R94). -/
abbrev Word16 := BitVec 16

/-- A binary32 pattern on a port, or one PCM frame (R88, R94). -/
abbrev Word32 := BitVec 32

/-- A command word or a response word (R80, R81, R92). -/
abbrev Word64 := BitVec 64

/-- What a signal or parameter can be (R9). The rules are written over the real numbers; this model's numbers are
rational, and the configuration field NUM (`Config.num`) says which of them arithmetic yields.
DESIGN CHOICE, unsafe in the low-order digits: see notes/assumptions/1.md. -/
abbrev NUM := ℚ

/-- What a binary32 pattern of field V decodes to (R88), and what an operation of a finite-precision NUM yields
(U17): a number, an infinity or a NaN. -/
inductive F32 where
  /-- A number; of a pattern, the number it stands for (both zeros give the number 0). -/
  | fin (q : NUM)
  /-- Plus infinity. -/
  | posInf
  /-- Minus infinity. -/
  | negInf
  /-- Any NaN. -/
  | nan
  deriving DecidableEq, Repr, Inhabited

end Sys2Proof
end

