-- ==== Sys2Proof/Syntax.lean ====
section
/-! DEFINITION. The commands of the HVE (R2, R82, R83), one constructor per row of spec/opcode_table.json. -/

namespace Sys2Proof

/-- A command with the operands its rule reads (R82). An integer operand is the number the field holds, a
`NUM` operand is the binary32 pattern of field V. Fields a command ignores are no operands. -/
inductive Instr where
  /-- `CREATE` (R112). -/
  | create
  /-- `DESTROY` (R114). -/
  | destroy
  /-- `GETVC` (R116). -/
  | getvc
  /-- `NOTEON note, velocity` (R130). -/
  | noteon (note : Nat) (velocity : Word32)
  /-- `NOTEOFF note` (R135). -/
  | noteoff (note : Nat)
  /-- `CC number, value` (R140). -/
  | cc (number : Nat) (value : Nat)
  /-- `BEND value` (R145). -/
  | bend (value : Nat)
  /-- `PARAM.VCA_DEPTH value` (R352). -/
  | paramVcaDepth (value : Word32)
  /-- `PARAM.VCA_TYPE value` (R353). -/
  | paramVcaType (value : Word32)
  /-- `PARAM.DCO_PWM_DEPTH value` (R354). -/
  | paramDcoPwmDepth (value : Word32)
  /-- `PARAM.DCO_PWM_MOD value` (R355). -/
  | paramDcoPwmMod (value : Word32)
  /-- `PARAM.DCO_SAW_LEVEL value` (R356). -/
  | paramDcoSawLevel (value : Word32)
  /-- `PARAM.DCO_PULSE_LEVEL value` (R357). -/
  | paramDcoPulseLevel (value : Word32)
  /-- `PARAM.DCO_SUB_LEVEL value` (R358). -/
  | paramDcoSubLevel (value : Word32)
  /-- `PARAM.DCO_NOISE_LEVEL value` (R359). -/
  | paramDcoNoiseLevel (value : Word32)
  /-- `PARAM.DCO_RANGE value` (R360). -/
  | paramDcoRange (value : Word32)
  /-- `PARAM.DCO_PITCH_MOD value` (R361). -/
  | paramDcoPitchMod (value : Word32)
  /-- `PARAM.VCF_CUTOFF value` (R362). -/
  | paramVcfCutoff (value : Word32)
  /-- `PARAM.VCF_RESONANCE value` (R363). -/
  | paramVcfResonance (value : Word32)
  /-- `PARAM.VCF_ENV_MOD value` (R364). -/
  | paramVcfEnvMod (value : Word32)
  /-- `PARAM.VCF_LFO_MOD value` (R365). -/
  | paramVcfLfoMod (value : Word32)
  /-- `PARAM.VCF_KBD_MOD value` (R366). -/
  | paramVcfKbdMod (value : Word32)
  /-- `PARAM.VCF_BEND_MOD value` (R367). -/
  | paramVcfBendMod (value : Word32)
  /-- `PARAM.ENV_ATTACK value` (R368). -/
  | paramEnvAttack (value : Word32)
  /-- `PARAM.ENV_DECAY value` (R369). -/
  | paramEnvDecay (value : Word32)
  /-- `PARAM.ENV_SUSTAIN value` (R370). -/
  | paramEnvSustain (value : Word32)
  /-- `PARAM.ENV_RELEASE value` (R371). -/
  | paramEnvRelease (value : Word32)
  /-- `PARAM.LFO_TRIG_MODE value` (R372). -/
  | paramLfoTrigMode (value : Word32)
  /-- `PARAM.LFO_RATE value` (R373). -/
  | paramLfoRate (value : Word32)
  /-- `PARAM.LFO_DELAY value` (R374). -/
  | paramLfoDelay (value : Word32)
  /-- `PARAM.HPF_AMOUNT value` (R375). -/
  | paramHpfAmount (value : Word32)
  /-- `PARAM.CHORUS_I value` (R376). -/
  | paramChorusI (value : Word32)
  /-- `PARAM.CHORUS_II value` (R377). -/
  | paramChorusII (value : Word32)
  /-- `GETP index` (R380). -/
  | getp (index : Nat)
  /-- `SETVOL value` (R381). -/
  | setvol (value : Word32)
  /-- `GETVOL` (R383). -/
  | getvol
  /-- `SETOCT octaves` (R382). -/
  | setoct (octaves : Int)
  /-- `GETOCT` (R384). -/
  | getoct
  /-- `RENDER frames` (R320). -/
  | render (frames : Nat)
  deriving DecidableEq, Repr, Inhabited

end Sys2Proof
end

