-- ==== Sys2Proof/WellFormed.lean ====
section
/-! DEFINITION. When a command has an encoding: every integer operand fits its field (R81, R82, R87, R89). -/

namespace Sys2Proof

/-- The checks of one command: an A operand fits 8 bits (R87), a B operand 16 bits, and the octave setting
is a signed 16-bit integer (R89). A `NUM` operand is a whole pattern of field V and needs no check. -/
def Instr.wellFormed : Instr → Bool
  | .noteon note _ => decide (note < 2 ^ 8)
  | .noteoff note => decide (note < 2 ^ 8)
  | .cc number value => decide (number < 2 ^ 8) && decide (value < 2 ^ 16)
  | .bend value => decide (value < 2 ^ 16)
  | .getp index => decide (index < 2 ^ 8)
  | .setoct octaves => decide (-(2 ^ 15) ≤ octaves) && decide (octaves < 2 ^ 15)
  | .render frames => decide (frames < 2 ^ 16)
  | .create | .destroy | .getvc | .getvol | .getoct | .setvol _
  | .paramVcaDepth _ | .paramVcaType _ | .paramDcoPwmDepth _ | .paramDcoPwmMod _
  | .paramDcoSawLevel _ | .paramDcoPulseLevel _ | .paramDcoSubLevel _ | .paramDcoNoiseLevel _
  | .paramDcoRange _ | .paramDcoPitchMod _ | .paramVcfCutoff _ | .paramVcfResonance _
  | .paramVcfEnvMod _ | .paramVcfLfoMod _ | .paramVcfKbdMod _ | .paramVcfBendMod _
  | .paramEnvAttack _ | .paramEnvDecay _ | .paramEnvSustain _ | .paramEnvRelease _
  | .paramLfoTrigMode _ | .paramLfoRate _ | .paramLfoDelay _ | .paramHpfAmount _
  | .paramChorusI _ | .paramChorusII _ => true

/-- The command has an encoding. -/
abbrev Instr.WellFormed (i : Instr) : Prop := i.wellFormed = true

end Sys2Proof
end

