-- ==== Sys2Proof/Decode.lean ====
section
/-! DEFINITION. The command word (R81 to R89): its fields, the decoder, the encoder, the byte image of a
word (R62), the assembler text (R97) and the pseudo-instructions (R98). -/

namespace Sys2Proof

/-! ## Fields of the command word (R81) -/

/-- Field OP, bits 63:56. -/
def fieldOp (w : Word64) : Word8 := w.extractLsb' 56 8

/-- Field A, bits 55:48. -/
def fieldA (w : Word64) : Word8 := w.extractLsb' 48 8

/-- Field B, bits 47:32. -/
def fieldB (w : Word64) : Word16 := w.extractLsb' 32 16

/-- Field V, bits 31:0. -/
def fieldV (w : Word64) : Word32 := w.extractLsb' 0 32

/-- A command word from its four fields (R81). -/
def packCommand (op a : Word8) (b : Word16) (v : Word32) : Word64 := op ++ a ++ b ++ v

/-! ## Opcodes (R82, R83) -/

def opCreate : Word8 := 0x01
def opDestroy : Word8 := 0x02
def opGetvc : Word8 := 0x03
def opNoteon : Word8 := 0x10
def opNoteoff : Word8 := 0x11
def opCc : Word8 := 0x12
def opBend : Word8 := 0x13
def opParam : Word8 := 0x20
def opGetp : Word8 := 0x21
def opSetvol : Word8 := 0x22
def opGetvol : Word8 := 0x23
def opSetoct : Word8 := 0x24
def opGetoct : Word8 := 0x25
def opRender : Word8 := 0x30

/-- The sub-command `PARAM.<name>` that field A selects (R83); none for the illegal indices (R84). -/
def paramInstr (index : Nat) (v : Word32) : Option Instr :=
  match index with
  | 0 => some (.paramVcaDepth v)
  | 1 => some (.paramVcaType v)
  | 2 => some (.paramDcoPwmDepth v)
  | 3 => some (.paramDcoPwmMod v)
  | 4 => some (.paramDcoSawLevel v)
  | 5 => some (.paramDcoPulseLevel v)
  | 6 => some (.paramDcoSubLevel v)
  | 7 => some (.paramDcoNoiseLevel v)
  | 8 => some (.paramDcoRange v)
  | 9 => some (.paramDcoPitchMod v)
  | 10 => some (.paramVcfCutoff v)
  | 11 => some (.paramVcfResonance v)
  | 12 => some (.paramVcfEnvMod v)
  | 13 => some (.paramVcfLfoMod v)
  | 14 => some (.paramVcfKbdMod v)
  | 15 => some (.paramVcfBendMod v)
  | 16 => some (.paramEnvAttack v)
  | 17 => some (.paramEnvDecay v)
  | 18 => some (.paramEnvSustain v)
  | 19 => some (.paramEnvRelease v)
  | 20 => some (.paramLfoTrigMode v)
  | 21 => some (.paramLfoRate v)
  | 22 => some (.paramLfoDelay v)
  | 23 => some (.paramHpfAmount v)
  | 24 => some (.paramChorusI v)
  | 25 => some (.paramChorusII v)
  | _ => none

/-! ## The decoder -/

/-- What a command word says. The two rejections are no faults: each has its status code (R84, R401). -/
inductive Decoded where
  /-- A command of the opcode table. -/
  | instr (i : Instr)
  /-- A reserved opcode, answered BADOP (R84). -/
  | reservedOp (op : Word8)
  /-- `PARAM` with an index in 26 to 255, answered BADIDX (R84). -/
  | illegalIndex (a : Word8)
  deriving DecidableEq, Repr, Inhabited

/-- `PARAM` by its field A (R83, R84). -/
def decodeParam (a : Word8) (v : Word32) : Decoded :=
  match paramInstr a.toNat v with
  | some i => .instr i
  | none => .illegalIndex a

/-- The decoder on the four fields (R82 to R84, R87, R89): only the fields a command reads reach it. -/
def decodeFields (op a : Word8) (b : Word16) (v : Word32) : Decoded :=
  match op.toNat with
  | 0x01 => .instr .create
  | 0x02 => .instr .destroy
  | 0x03 => .instr .getvc
  | 0x10 => .instr (.noteon a.toNat v)
  | 0x11 => .instr (.noteoff a.toNat)
  | 0x12 => .instr (.cc a.toNat b.toNat)
  | 0x13 => .instr (.bend b.toNat)
  | 0x20 => decodeParam a v
  | 0x21 => .instr (.getp a.toNat)
  | 0x22 => .instr (.setvol v)
  | 0x23 => .instr .getvol
  | 0x24 => .instr (.setoct b.toInt)
  | 0x25 => .instr .getoct
  | 0x30 => .instr (.render b.toNat)
  | _ => .reservedOp op

/-- The decoder, total on every 64-bit word (R83). -/
def decode (w : Word64) : Decoded :=
  decodeFields (fieldOp w) (fieldA w) (fieldB w) (fieldV w)

/-! ## The encoder -/

/-- The word of `PARAM index, value` (R81, R82). -/
def encodeParam (index : Word8) (v : Word32) : Word64 := packCommand opParam index 0 v

/-- The word an assembler writes for a command, zeros in the fields the command ignores (R81 to R83). -/
def encode : Instr → Word64
  | .create => packCommand opCreate 0 0 0
  | .destroy => packCommand opDestroy 0 0 0
  | .getvc => packCommand opGetvc 0 0 0
  | .noteon note v => packCommand opNoteon (BitVec.ofNat 8 note) 0 v
  | .noteoff note => packCommand opNoteoff (BitVec.ofNat 8 note) 0 0
  | .cc number value => packCommand opCc (BitVec.ofNat 8 number) (BitVec.ofNat 16 value) 0
  | .bend value => packCommand opBend 0 (BitVec.ofNat 16 value) 0
  | .paramVcaDepth v => encodeParam 0 v
  | .paramVcaType v => encodeParam 1 v
  | .paramDcoPwmDepth v => encodeParam 2 v
  | .paramDcoPwmMod v => encodeParam 3 v
  | .paramDcoSawLevel v => encodeParam 4 v
  | .paramDcoPulseLevel v => encodeParam 5 v
  | .paramDcoSubLevel v => encodeParam 6 v
  | .paramDcoNoiseLevel v => encodeParam 7 v
  | .paramDcoRange v => encodeParam 8 v
  | .paramDcoPitchMod v => encodeParam 9 v
  | .paramVcfCutoff v => encodeParam 10 v
  | .paramVcfResonance v => encodeParam 11 v
  | .paramVcfEnvMod v => encodeParam 12 v
  | .paramVcfLfoMod v => encodeParam 13 v
  | .paramVcfKbdMod v => encodeParam 14 v
  | .paramVcfBendMod v => encodeParam 15 v
  | .paramEnvAttack v => encodeParam 16 v
  | .paramEnvDecay v => encodeParam 17 v
  | .paramEnvSustain v => encodeParam 18 v
  | .paramEnvRelease v => encodeParam 19 v
  | .paramLfoTrigMode v => encodeParam 20 v
  | .paramLfoRate v => encodeParam 21 v
  | .paramLfoDelay v => encodeParam 22 v
  | .paramHpfAmount v => encodeParam 23 v
  | .paramChorusI v => encodeParam 24 v
  | .paramChorusII v => encodeParam 25 v
  | .getp index => packCommand opGetp (BitVec.ofNat 8 index) 0 0
  | .setvol v => packCommand opSetvol 0 0 v
  | .getvol => packCommand opGetvol 0 0 0
  | .setoct octaves => packCommand opSetoct 0 (BitVec.ofInt 16 octaves) 0
  | .getoct => packCommand opGetoct 0 0 0
  | .render frames => packCommand opRender 0 (BitVec.ofNat 16 frames) 0

/-! ## The opcode table (R83) -/

/-- The index of the `PARAM` sub-command a command is, if it is one. -/
def paramIndex : Instr → Option Nat
  | .paramVcaDepth _ => some 0
  | .paramVcaType _ => some 1
  | .paramDcoPwmDepth _ => some 2
  | .paramDcoPwmMod _ => some 3
  | .paramDcoSawLevel _ => some 4
  | .paramDcoPulseLevel _ => some 5
  | .paramDcoSubLevel _ => some 6
  | .paramDcoNoiseLevel _ => some 7
  | .paramDcoRange _ => some 8
  | .paramDcoPitchMod _ => some 9
  | .paramVcfCutoff _ => some 10
  | .paramVcfResonance _ => some 11
  | .paramVcfEnvMod _ => some 12
  | .paramVcfLfoMod _ => some 13
  | .paramVcfKbdMod _ => some 14
  | .paramVcfBendMod _ => some 15
  | .paramEnvAttack _ => some 16
  | .paramEnvDecay _ => some 17
  | .paramEnvSustain _ => some 18
  | .paramEnvRelease _ => some 19
  | .paramLfoTrigMode _ => some 20
  | .paramLfoRate _ => some 21
  | .paramLfoDelay _ => some 22
  | .paramHpfAmount _ => some 23
  | .paramChorusI _ => some 24
  | .paramChorusII _ => some 25
  | .create | .destroy | .getvc | .noteon _ _ | .noteoff _ | .cc _ _ | .bend _ | .getp _ | .setvol _
  | .getvol | .setoct _ | .getoct | .render _ => none

/-- The opcode a command is encoded with and answers with (R82, R92). -/
def opcodeOf : Instr → Word8
  | .create => opCreate
  | .destroy => opDestroy
  | .getvc => opGetvc
  | .noteon _ _ => opNoteon
  | .noteoff _ => opNoteoff
  | .cc _ _ => opCc
  | .bend _ => opBend
  | .getp _ => opGetp
  | .setvol _ => opSetvol
  | .getvol => opGetvol
  | .setoct _ => opSetoct
  | .getoct => opGetoct
  | .render _ => opRender
  | .paramVcaDepth _ | .paramVcaType _ | .paramDcoPwmDepth _ | .paramDcoPwmMod _
  | .paramDcoSawLevel _ | .paramDcoPulseLevel _ | .paramDcoSubLevel _ | .paramDcoNoiseLevel _
  | .paramDcoRange _ | .paramDcoPitchMod _ | .paramVcfCutoff _ | .paramVcfResonance _
  | .paramVcfEnvMod _ | .paramVcfLfoMod _ | .paramVcfKbdMod _ | .paramVcfBendMod _
  | .paramEnvAttack _ | .paramEnvDecay _ | .paramEnvSustain _ | .paramEnvRelease _
  | .paramLfoTrigMode _ | .paramLfoRate _ | .paramLfoDelay _ | .paramHpfAmount _
  | .paramChorusI _ | .paramChorusII _ => opParam

/-- The `mask` of a command's row in the opcode table (R83). -/
def tableMask (i : Instr) : Word64 :=
  match paramIndex i with
  | some _ => 0xFFFF000000000000
  | none => 0xFF00000000000000

/-- The `match` of a command's row in the opcode table (R83). -/
def tableMatch (i : Instr) : Word64 :=
  match paramIndex i with
  | some n => packCommand (opcodeOf i) (BitVec.ofNat 8 n) 0 0
  | none => packCommand (opcodeOf i) 0 0 0

/-- The bits of a command word a command reads: its opcode and the fields R82 names for it, every other bit
ignored. The value of `CC` counts as read: no rule uses it, but the command carries it. -/
def readMask (i : Instr) : Word64 :=
  match i with
  | .create | .destroy | .getvc | .getvol | .getoct => 0xFF00000000000000
  | .noteoff _ | .getp _ => 0xFFFF000000000000
  | .bend _ | .setoct _ | .render _ => 0xFF00FFFF00000000
  | .cc _ _ => 0xFFFFFFFF00000000
  | .setvol _ => 0xFF000000FFFFFFFF
  | .noteon _ _
  | .paramVcaDepth _ | .paramVcaType _ | .paramDcoPwmDepth _ | .paramDcoPwmMod _
  | .paramDcoSawLevel _ | .paramDcoPulseLevel _ | .paramDcoSubLevel _ | .paramDcoNoiseLevel _
  | .paramDcoRange _ | .paramDcoPitchMod _ | .paramVcfCutoff _ | .paramVcfResonance _
  | .paramVcfEnvMod _ | .paramVcfLfoMod _ | .paramVcfKbdMod _ | .paramVcfBendMod _
  | .paramEnvAttack _ | .paramEnvDecay _ | .paramEnvSustain _ | .paramEnvRelease _
  | .paramLfoTrigMode _ | .paramLfoRate _ | .paramLfoDelay _ | .paramHpfAmount _
  | .paramChorusI _ | .paramChorusII _ => 0xFFFF0000FFFFFFFF

/-- The decoder on a word of the opcode table, given as a number whose bit 0 is the word's bit 0. Every
row has 64 bits; bits above `nbits` are zero. -/
def decodeTableWord (nbits w : Nat) : Option Instr :=
  match decode (BitVec.ofNat 64 (w % 2 ^ nbits)) with
  | .instr i => some i
  | .reservedOp _ => none
  | .illegalIndex _ => none

/-! ## Byte image of a word (R62) -/

/-- The low `n` bytes of a number, the least significant first (R62). -/
def littleEndian : Nat → Nat → List Byte
  | 0, _ => []
  | n + 1, w => BitVec.ofNat 8 w :: littleEndian n (w / 2 ^ 8)

/-- The number a list of bytes stands for, the least significant byte first (R62). -/
def fromLittleEndian : List Byte → Nat
  | [] => 0
  | b :: bs => b.toNat + 2 ^ 8 * fromLittleEndian bs

/-- The eight bytes of a command or response word as a transport serialises it (R62). -/
def wordBytes (w : Word64) : List Byte := littleEndian 8 w.toNat

/-- The four bytes of a PCM frame as a transport serialises it: `L.lo, L.hi, R.lo, R.hi` (R62). -/
def frameBytes (f : Word32) : List Byte := littleEndian 4 f.toNat

/-- The first command of a byte stream and the rest of the stream; none where fewer than eight bytes stand,
since a command is taken whole (R62, R64). -/
def decodeBytes (bs : List Byte) : Option (Decoded × List Byte) :=
  if bs.length < 8 then none
  else some (decode (BitVec.ofNat 64 (fromLittleEndian (bs.take 8))), bs.drop 8)

/-! ## Assembler text (R97) and pseudo-instructions (R98) -/

/-- A hexadecimal digit. -/
def hexDigit (n : Nat) : Char := Nat.digitChar (n % 16)

/-- A binary32 operand by its exact pattern, `f32:0x...` (R97). -/
def asmPattern (v : Word32) : String :=
  String.ofList ("f32:0x".toList ++
    ([7, 6, 5, 4, 3, 2, 1, 0].map fun k => hexDigit (v.toNat / 16 ^ k)))

/-- The assembler line of a command: mnemonic, then the operands it reads, comma-separated (R97). -/
def asm : Instr → String
  | .create => "CREATE"
  | .destroy => "DESTROY"
  | .getvc => "GETVC"
  | .noteon note v => "NOTEON " ++ toString note ++ ", " ++ asmPattern v
  | .noteoff note => "NOTEOFF " ++ toString note
  | .cc number value => "CC " ++ toString number ++ ", " ++ toString value
  | .bend value => "BEND " ++ toString value
  | .paramVcaDepth v => "PARAM.VCA_DEPTH " ++ asmPattern v
  | .paramVcaType v => "PARAM.VCA_TYPE " ++ asmPattern v
  | .paramDcoPwmDepth v => "PARAM.DCO_PWM_DEPTH " ++ asmPattern v
  | .paramDcoPwmMod v => "PARAM.DCO_PWM_MOD " ++ asmPattern v
  | .paramDcoSawLevel v => "PARAM.DCO_SAW_LEVEL " ++ asmPattern v
  | .paramDcoPulseLevel v => "PARAM.DCO_PULSE_LEVEL " ++ asmPattern v
  | .paramDcoSubLevel v => "PARAM.DCO_SUB_LEVEL " ++ asmPattern v
  | .paramDcoNoiseLevel v => "PARAM.DCO_NOISE_LEVEL " ++ asmPattern v
  | .paramDcoRange v => "PARAM.DCO_RANGE " ++ asmPattern v
  | .paramDcoPitchMod v => "PARAM.DCO_PITCH_MOD " ++ asmPattern v
  | .paramVcfCutoff v => "PARAM.VCF_CUTOFF " ++ asmPattern v
  | .paramVcfResonance v => "PARAM.VCF_RESONANCE " ++ asmPattern v
  | .paramVcfEnvMod v => "PARAM.VCF_ENV_MOD " ++ asmPattern v
  | .paramVcfLfoMod v => "PARAM.VCF_LFO_MOD " ++ asmPattern v
  | .paramVcfKbdMod v => "PARAM.VCF_KBD_MOD " ++ asmPattern v
  | .paramVcfBendMod v => "PARAM.VCF_BEND_MOD " ++ asmPattern v
  | .paramEnvAttack v => "PARAM.ENV_ATTACK " ++ asmPattern v
  | .paramEnvDecay v => "PARAM.ENV_DECAY " ++ asmPattern v
  | .paramEnvSustain v => "PARAM.ENV_SUSTAIN " ++ asmPattern v
  | .paramEnvRelease v => "PARAM.ENV_RELEASE " ++ asmPattern v
  | .paramLfoTrigMode v => "PARAM.LFO_TRIG_MODE " ++ asmPattern v
  | .paramLfoRate v => "PARAM.LFO_RATE " ++ asmPattern v
  | .paramLfoDelay v => "PARAM.LFO_DELAY " ++ asmPattern v
  | .paramHpfAmount v => "PARAM.HPF_AMOUNT " ++ asmPattern v
  | .paramChorusI v => "PARAM.CHORUS_I " ++ asmPattern v
  | .paramChorusII v => "PARAM.CHORUS_II " ++ asmPattern v
  | .getp index => "GETP " ++ toString index
  | .setvol v => "SETVOL " ++ asmPattern v
  | .getvol => "GETVOL"
  | .setoct octaves => "SETOCT " ++ toString octaves
  | .getoct => "GETOCT"
  | .render frames => "RENDER " ++ toString frames

/-- `PARAM index, value` for the indices that have a sub-command (R97). -/
def presetFrom : Nat → List Word32 → List Instr
  | _, [] => []
  | n, v :: vs => (paramInstr n v).toList ++ presetFrom (n + 1) vs

/-- `PRESET v0, ..., v25`: the 26 `PARAM` commands in ascending index order (R98, R385). -/
def preset (vs : Vector Word32 26) : List Instr := presetFrom 0 vs.toList

/-- `ANOFF` (R98). -/
def anoff : Instr := .cc 123 0

/-- `ASOFF` (R98). -/
def asoff : Instr := .cc 120 0

end Sys2Proof
end

