-- ==== Sys2Proof/Config.lean ====
section
/-! DEFINITION. What an HVE block fixes when it is built: the record of the open parameters, kernels, tables
and numeric primitives among them, with the spec's reference instance (R6, R9, R46), the fixed parameters and
numeric literals of the rules (R6, U11, U12), and the one free value of the render path, the random draws
(R52). Every open parameter is plain data: a kernel is the reference instance of its rule or a program. -/

namespace Sys2Proof

/-- ENV_RETRIG: what a retrigger does to the envelope's level (R191). -/
inductive EnvRetrig where
  /-- The attack rises from the present level. -/
  | keep
  /-- The attack restarts from level 0. -/
  | zero
  deriving DecidableEq, Repr, Inhabited

/-- RELEASED_READING: the two readings of `isReleased()` (R196, C6). -/
inductive ReleasedReading where
  /-- The release has decayed to the threshold: HERA's stated reading, normative. -/
  | completed
  /-- The key has been let go: the alternative reading. -/
  | entered
  deriving DecidableEq, Repr, Inhabited

/-- PCM_ROUND: how the fraction of a scaled sample is discarded (R337). -/
inductive PcmRound where
  /-- Toward zero. -/
  | truncate
  /-- `floor(s + 0.5)`. -/
  | nearest
  deriving DecidableEq, Repr, Inhabited

/-- LFO_WAVE: the waveform strap (R46, R266). -/
inductive LfoWave where
  | triangle
  | sine
  | square
  | random
  | noise
  deriving DecidableEq, Repr, Inhabited

/-! ## NUM (R9) -/

/-- The numbers the primitives of NUM yield (R9): a result that is not one of them is rounded to the nearest, ties
to even. DESIGN CHOICE: notes/assumptions/1.md. -/
inductive Carrier where
  /-- Every rational number: arithmetic is exact, as in the reference NUM. -/
  | rational
  /-- Fixed point: the multiples of `2^-bits`. -/
  | fixed (bits : Nat)
  /-- Binary floating point: `digits` fractional bits of the significand, in steps of `2^-least` or coarser, exponents
  up to `most`. binary32 is `digits = 23`, `least = 149`, `most = 127`. -/
  | float (digits least most : Nat)
  deriving DecidableEq, Repr, Inhabited

/-- NUM (R9): the carrier every primitive rounds to, and how finely `exp2`, `tanh` and `sin` are computed. Digits and
terms can be raised without bound, the real functions being the limit.
DESIGN CHOICE: notes/assumptions/1.md and 2.md. -/
structure Numerics where
  carrier  : Carrier
  /-- The fractional bits of the fixed-point work. -/
  bits     : Nat
  /-- `ln 2` in units of `2^-bits`. -/
  ln2      : Nat
  /-- Terms of the exponential series. -/
  expTerms : Nat
  /-- `2/ln 2`. -/
  twoLog2E : NUM
  /-- `2*pi` in units of `2^-bits`. -/
  twoPi    : Int
  /-- Terms of the sine series. -/
  sinTerms : Nat
  deriving DecidableEq, Repr, Inhabited

/-- The reference instance: exact arithmetic, and functions of 64 fractional bits. -/
def Numerics.reference : Numerics where
  carrier  := .rational
  bits     := 64
  ln2      := 12786308645202655659
  expTerms := 24
  twoLog2E := 2885390081777926814719849362003 / 10 ^ 30
  twoPi    := 115904311329233965478
  sinTerms := 20

/-! ## Closed forms and programs

A kernel that is not the reference instance is given as plain data: formulas in the primitives of R9 over
numbered variables. DESIGN CHOICE: notes/assumptions/4.md. -/

/-- A formula in the primitives of R9. -/
inductive Expr where
  | const (q : NUM)
  /-- A variable by its number; one that does not exist reads as 0. -/
  | var (i : Nat)
  | add (a b : Expr)
  | sub (a b : Expr)
  | mul (a b : Expr)
  | div (a b : Expr)
  | floor (a : Expr)
  | exp2 (a : Expr)
  | tanh (a : Expr)
  | sin (a : Expr)
  /-- `t` if `a < b`, else `e`. -/
  | ifLess (a b t e : Expr)
  deriving DecidableEq, Repr, Inhabited

/-- How a kernel's private state changes in one sample: local values, each computed from the inputs, the private
state and the locals before it, then the new private state. -/
structure Program where
  locals : List Expr
  next   : List Expr
  deriving DecidableEq, Repr, Inhabited

/-- The breakpoints `(x, y)` of a table, in rising order of `x` (R160). -/
abbrev Breakpoints := List (NUM × NUM)

/-- A curve table: a function on [0, 1], by breakpoints or in closed form (R160, R161). -/
inductive CurveTable where
  | points (bs : Breakpoints)
  /-- Variable 0 is the control value. -/
  | closed (e : Expr)
  deriving DecidableEq, Repr, Inhabited

/-! ## The kernels (R6, U6) -/

/-- One segment of an envelope. The inputs are the level and the configuration: attack, decay, sustain, release
(R190 K1). -/
structure EnvSegment where
  body  : Program
  /-- The level after the sample, from the inputs and the new private state. -/
  level : Expr
  /-- Positive where the segment ends with this sample, before it has to (R181). -/
  done  : Expr
  deriving DecidableEq, Repr, Inhabited

/-- An envelope kernel other than the reference one (R190). -/
structure EnvProgram where
  attack  : EnvSegment
  decay   : EnvSegment
  release : EnvSegment
  /-- The private state in Idle, and in Sustain, from the inputs of a segment. -/
  idle    : Program
  sustain : Program
  /-- The reset value of `aux` (R36). -/
  aux     : List NUM
  deriving DecidableEq, Repr, Inhabited

/-- ENV_KERNEL (R190). -/
inductive EnvKernel where
  /-- R194. -/
  | reference
  | program (k : EnvProgram)
  deriving DecidableEq, Repr, Inhabited

/-- An oscillator kernel other than the reference one (R220). Its private state is in two parts, so that the draw
reaches the noise alone (K4). -/
structure OscProgram where
  /-- The state of the pitched waveforms. Inputs: the frequency in Hz and the PWM-mod value. -/
  body     : Program
  /-- The state of the noise. Inputs: the draw, the frequency and the PWM-mod value. -/
  source   : Program
  /-- Over the new state of the pitched waveforms, as is `sub`. -/
  saw      : Expr
  /-- Over the PWM-mod value and the new state of the pitched waveforms. -/
  pulse    : Expr
  sub      : Expr
  /-- Over the draw and the new state of the noise. -/
  noise    : Expr
  /-- The reset values of the two parts (R37). -/
  aux      : List NUM
  noiseAux : List NUM
  deriving DecidableEq, Repr, Inhabited

/-- OSC_KERNEL (R220). -/
inductive OscKernel where
  /-- R221. -/
  | reference
  | program (k : OscProgram)
  deriving DecidableEq, Repr, Inhabited

/-- PWM_SOURCE (R223): what each PWM source is as a number. -/
structure PwmSource where
  /-- The constant of the Manual source. -/
  manual : NUM
  /-- Variable 0 is the LFO sample. -/
  lfo    : Expr
  /-- Variables 0 and 1 are the levels of the tunable and of the current envelope. -/
  env    : Expr
  deriving DecidableEq, Repr, Inhabited

/-- The reference mapping of R223. -/
def PwmSource.reference : PwmSource where
  manual := 1
  lfo    := .mul (.const (1/2)) (.add (.const 1) (.var 0))
  env    := .var 0

/-- A filter kernel other than the reference one, of the voice filter or the high-pass: the change of the private
state and the sample, a formula over the inputs and the new private state. -/
structure FilterProgram where
  body : Program
  out  : Expr
  /-- The reset value of the private state. -/
  aux  : List NUM
  deriving DecidableEq, Repr, Inhabited

/-- VCF_KERNEL (R248). The inputs of a program are the sample, the cutoff in Hz and the resonance. -/
inductive VcfKernel where
  /-- R249. -/
  | reference
  | program (k : FilterProgram)
  deriving DecidableEq, Repr, Inhabited

/-- An LFO kernel other than the reference one (R269). The inputs are the frequency in Hz, P[21], P[22], the number
of the waveform in the order of R266, the draw, which is 0 where the waveform draws nothing (K4), `gate` as 0 or 1
(R265), the phase after the advance, and 1 where a cycle begins with this sample, else 0. The phase is the operation's
(K2), and the delay and the ramp-in are no inputs: they scale the waveform. -/
structure LfoProgram where
  body  : Program
  /-- The waveform, over the inputs and the new private state. -/
  wave  : Expr
  /-- The gain within the ramp-in; variable 0 is the part of it that has gone by, between 0 and 1. -/
  ramp  : Expr
  /-- The reset value of the private state. -/
  aux   : List NUM
  deriving DecidableEq, Repr, Inhabited

/-- LFO_KERNEL (R269). -/
inductive LfoKernel where
  /-- R271, R273. -/
  | reference
  | program (k : LfoProgram)
  deriving DecidableEq, Repr, Inhabited

/-- HPF_KERNEL (R294). The inputs of a program are the sample, P[23] and CT_HPF(P[23]). -/
inductive HpfKernel where
  /-- R295. -/
  | reference
  | program (k : FilterProgram)
  deriving DecidableEq, Repr, Inhabited

/-- SOFTCLIP (R300). -/
inductive SoftClipper where
  /-- `tanh(3x)`. -/
  | reference
  /-- A table over the input interval `lo .. hi`, its breakpoints given over [0, 1]; the argument is clamped to
  the interval first (K3). -/
  | sampled (lo hi : NUM) (bs : Breakpoints)
  /-- Variable 0 is the input. -/
  | closed (e : Expr)
  deriving DecidableEq, Repr, Inhabited

/-- A chorus kernel other than the reference one (R304). The inputs are the sample and the two enables as 0 or 1
(K1); the outputs with a stage enabled are formulas over them and the new private state (R306). -/
structure ChorusProgram where
  body  : Program
  left  : Expr
  right : Expr
  /-- The reset value of the private state. -/
  aux   : List NUM
  deriving DecidableEq, Repr, Inhabited

/-- CHORUS_KERNEL (R304). -/
inductive ChorusKernel where
  /-- R305. -/
  | reference
  | program (k : ChorusProgram)
  deriving DecidableEq, Repr, Inhabited

/-- The configuration of one envelope: three times in seconds and the sustain level (R185, R186). -/
structure EnvCfg where
  attackS  : NUM
  decayS   : NUM
  sustain  : NUM
  releaseS : NUM
  deriving DecidableEq, Repr, Inhabited

/-- The open parameters of R6, as one record of plain data: every one but RAND, which is `Config.rand`. -/
structure Config where
  /-- NUM (R9). -/
  num             : Numerics
  /-- PARAM_DEFAULT[0..25] (R422). -/
  paramDefault    : Vector NUM 26
  /-- VOLUME_DEFAULT (R422). -/
  volumeDefault   : NUM
  /-- OCTAVE_DEFAULT (R422). -/
  octaveDefault   : Int
  /-- OCT_MIN (R382). -/
  octMin          : Int
  /-- OCT_MAX (R382). -/
  octMax          : Int
  /-- MASTER_GAIN (R336). -/
  masterGain      : NUM
  /-- PCM_ROUND (R337). -/
  pcmRound        : PcmRound
  /-- SMOOTH_COEF (R170). -/
  smoothCoef      : NUM
  /-- CT_ATTACK (R163). -/
  ctAttack        : CurveTable
  /-- CT_DECAY, shared by decay and release (R164). -/
  ctDecay         : CurveTable
  /-- CT_SUSTAIN (R165). -/
  ctSustain       : CurveTable
  /-- CT_LFO_RATE (R166). -/
  ctLfoRate       : CurveTable
  /-- CT_LFO_DELAY (R166). -/
  ctLfoDelay      : CurveTable
  /-- CT_LFO_ATTACK (R166, R268). -/
  ctLfoAttack     : CurveTable
  /-- CT_HPF (R166). -/
  ctHpf           : CurveTable
  /-- CT_VCA (R166). -/
  ctVca           : CurveTable
  /-- ENV_KERNEL (R190). -/
  envKernel       : EnvKernel
  /-- ENV_RELEASED_EPS (R197). -/
  envReleasedEps  : NUM
  /-- ENV_IDLE_EPS (R197). -/
  envIdleEps      : NUM
  /-- ENV_RETRIG (R191). -/
  envRetrig       : EnvRetrig
  /-- RELEASED_READING (R196). -/
  releasedReading : ReleasedReading
  /-- OSC_KERNEL (R220). -/
  oscKernel       : OscKernel
  /-- PWM_SOURCE (R223). -/
  pwmSource       : PwmSource
  /-- PW_CENTRE (R222). -/
  pwCentre        : NUM
  /-- PW_SPAN (R222). -/
  pwSpan          : NUM
  /-- PITCH_MOD_OCT (R228). -/
  pitchModOct     : NUM
  /-- VCF_KERNEL (R248). -/
  vcfKernel       : VcfKernel
  /-- CUTOFF_MIN_HZ (R249). -/
  cutoffMinHz     : NUM
  /-- CUTOFF_MAX_HZ (R249). -/
  cutoffMaxHz     : NUM
  /-- RES_K (R249). -/
  resK            : NUM
  /-- LFO_WAVE (R266). -/
  lfoWave         : LfoWave
  /-- LFO_KERNEL (R269). -/
  lfoKernel       : LfoKernel
  /-- HPF_KERNEL (R294). -/
  hpfKernel       : HpfKernel
  /-- SOFTCLIP (R300). -/
  softClip        : SoftClipper
  /-- CHORUS_KERNEL (R304). -/
  chorusKernel    : ChorusKernel
  /-- CH_LEN (R305). -/
  chLen           : Nat
  /-- CH_RATE_HZ[0] (R305). -/
  chRate0         : NUM
  /-- CH_RATE_HZ[1] (R305). -/
  chRate1         : NUM
  /-- CH_BASE (R305). -/
  chBase          : NUM
  /-- CH_DEPTH (R305). -/
  chDepth         : NUM
  deriving DecidableEq, Repr, Inhabited

namespace Config

/-- The reference values of the open parameters (R6 and the rules it names).
DESIGN CHOICE: see notes/assumptions/3.md. -/
def reference : Config where
  num             := .reference
  paramDefault    := #v[1/2, 0, 1/2, 0, 1/2, 0, 0, 0, 1, 0,
                        1/2, 0, 0, 0, 0, 0, 0, 1/2, 3/4, 1/4,
                        0, 1/2, 0, 0, 0, 0]
  volumeDefault   := 1
  octaveDefault   := 0
  octMin          := -3
  octMax          := 3
  masterGain      := 1
  pcmRound        := .truncate
  smoothCoef      := 1/441
  ctAttack        := .points [(0, 1/1000), (1, 13/4)]
  ctDecay         := .points [(0, 1/500), (1, 99/5)]
  ctSustain       := .points [(0, 0), (1, 1)]
  ctLfoRate       := .points [(0, 1/10), (1, 30)]
  ctLfoDelay      := .points [(0, 0), (1, 3)]
  ctLfoAttack     := .points [(0, 1/1000), (1, 2)]
  ctHpf           := .points [(0, 10), (1, 1000)]
  ctVca           := .points [(0, 0), (1, 1)]
  envKernel       := .reference
  envReleasedEps  := 1/1000
  envIdleEps      := 1/10000
  envRetrig       := .keep
  releasedReading := .completed
  oscKernel       := .reference
  pwmSource       := .reference
  pwCentre        := 1/2
  pwSpan          := 9/20
  pitchModOct     := 1/4
  vcfKernel       := .reference
  cutoffMinHz     := 39/5
  cutoffMaxHz     := 20000
  resK            := 4
  lfoWave         := .triangle
  lfoKernel       := .reference
  hpfKernel       := .reference
  softClip        := .reference
  chorusKernel    := .reference
  chLen           := 512
  chRate0         := 513/1000
  chRate1         := 863/1000
  chBase          := 154
  chDepth         := 66

/-! ## Fixed parameters and literals (R6, U11, U12) -/

/-- FS, the sample rate in Hz. -/
def fs : NUM := 44100

/-- MAXF, the most frames in one block. -/
def maxF : Nat := 256

/-- PCM_SCALE. -/
def pcmScale : NUM := 32767

/-- The largest sample, at which the conversion saturates (R337). -/
def pcmMax : Int := 32767

/-- The least sample, at which the conversion saturates (R337). -/
def pcmMin : Int := -32768

/-- BEND_CENTRE (R145). -/
def bendCentre : Int := 8192

/-- BEND_DIV (R145). -/
def bendDiv : NUM := 8192

/-- BEND_RANGE in semitones (R145). -/
def bendRange : NUM := 7

/-- BEND_MAX (R145). -/
def bendMax : Nat := 16383

/-- A4_HZ (R11). -/
def a4Hz : NUM := 440

/-- A4_NOTE (R11). -/
def a4Note : Int := 69

/-- The greatest note number (R126). -/
def noteMax : Int := 127

/-- Semitones in an octave (R11, R126, R243). -/
def semitones : Int := 12

/-- RANGE_MUL[i], by the tag of P[8] (R213). -/
def rangeMul : Nat → NUM
  | 0 => 1/2
  | 1 => 1
  | _ => 2

/-- CUTOFF_BASE_HZ (R243). -/
def cutoffBaseHz : NUM := 39/5

/-- CUTOFF_SLIDER_OCT (R242). -/
def cutoffSliderOct : NUM := 200/12

/-- RES_CUTOFF_OCT (R242). -/
def resCutoffOct : NUM := 1/2

/-- ENVMOD_OCT (R243). -/
def envModOct : NUM := 12

/-- LFOMOD_OCT (R324). -/
def lfoModOct : NUM := 3

/-- KBD_CENTRE (R243). -/
def kbdCentre : Int := 60

/-- BEND_VCF_SCALE (R243). -/
def bendVcfScale : NUM := 48/84

/-- The divisor of the mix, the pool size (R331). -/
def mixDiv : NUM := 6

/-- `2*pi/ln 2` as R249 and R295 write it. -/
def twoPiOverLn2 : NUM := 9.064720283654388

/-- `2*pi` as R273 writes it. -/
def twoPiLfo : NUM := 6.283185307179586

/-- CC_ALL_SOUND_OFF (R140). -/
def ccAllSoundOff : Nat := 120

/-- CC_ALL_NOTES_OFF (R140). -/
def ccAllNotesOff : Nat := 123

/-- `CfgG()`, the fixed configuration of every gate envelope (R186). -/
def gateEnv : EnvCfg where
  attackS  := 1/400
  decayS   := 3/500
  sustain  := 49/50
  releaseS := 3/500

end Config

/-- Who takes a random draw (R52): the LFO, or the oscillator of one voice slot. -/
inductive RandUnit where
  | lfo
  | voice (slot : Nat)
  deriving DecidableEq, Repr, Inhabited

/-- RAND, the oracle of the random draws (R52, U5): a FREE VALUE for every unit and every frame number,
constrained by nothing. R338 allows one free value per (unit, frame). See notes/assumptions/5.md. -/
opaque Config.rand : RandUnit → Nat → NUM

/-- What a register or a signal holds after an operation that overflows a floating-point NUM (U17): a FREE VALUE for
every exact result, constrained by nothing. See notes/assumptions/17.md. -/
opaque Config.overflow : NUM → NUM

end Sys2Proof
end

