-- ==== Sys2Proof/Machine/Numeric.lean ====
section
/-! DEFINITION. NUM (R9): the operations rounded to the carrier of the configuration, `exp2`, `tanh` and `sin` at its
precision, the two binary32 conversions (R88); then the helper functions of R11, the formulas and programs of the
configuration and the curve tables (R160, R161). Comparison and `floor` are those of the rational numbers. -/

namespace Sys2Proof.Machine

/-! ## Integers and powers of two -/

/-- `floor`. -/
def floor (v : NUM) : Int := Rat.floor v

/-- The nearest integer, ties to even. -/
def roundEven (q : NUM) : Int :=
  let f := floor q
  if q - f < 1/2 then f else if 1/2 < q - f then f + 1 else if f % 2 = 0 then f else f + 1

/-- `2^k`, exact. -/
def pow2 : Int → NUM
  | .ofNat n => ((2 ^ n : Nat) : NUM)
  | .negSucc n => 1 / ((2 ^ (n + 1) : Nat) : NUM)

/-- `floor(log2(n/d))` for positive `n` and `d`. -/
def floorLog2 (n d : Nat) : Int :=
  let e : Int := (Nat.log2 n : Int) - (Nat.log2 d : Int)
  if n * 2 ^ (-e).toNat < d * 2 ^ e.toNat then e - 1 else e

end Sys2Proof.Machine

namespace Sys2Proof

open Machine

/-! ## The operations of NUM (R9) -/

/-- The number of the carrier nearest to `q`, ties to even; an infinity where that is too large for it (U17). -/
def Numerics.toCarrier (n : Numerics) (q : NUM) : F32 :=
  match n.carrier with
  | .rational => .fin q
  | .fixed bits => .fin (roundEven (q * pow2 bits) * pow2 (-bits))
  | .float digits least most =>
    if q = 0 then .fin 0
    else
      let k : Int := min (digits - floorLog2 q.num.natAbs q.den) least
      let r : NUM := roundEven (q * pow2 k) * pow2 (-k)
      if |r| < pow2 (most + 1) then .fin r else if q < 0 then .negInf else .posInf

/-- What a register or a signal holds of `q`: the number of the carrier nearest to it, or a free value where it is too
large, which U17 lets be any value. -/
def Numerics.round (n : Numerics) (q : NUM) : NUM :=
  match n.toCarrier q with
  | .fin r => r
  | .posInf | .negInf | .nan => Config.overflow q

/-- `+`. An operand that is not of the carrier, such as a literal or a parameter, is rounded to it first. -/
def Numerics.add (n : Numerics) (a b : NUM) : NUM := n.round (n.round a + n.round b)

/-- `-`, on operands as those of `+`. -/
def Numerics.sub (n : Numerics) (a b : NUM) : NUM := n.round (n.round a - n.round b)

/-- `*`, on operands as those of `+`. -/
def Numerics.mul (n : Numerics) (a b : NUM) : NUM := n.round (n.round a * n.round b)

/-- `/`, on operands as those of `+`. -/
def Numerics.div (n : Numerics) (a b : NUM) : NUM := n.round (n.round a / n.round b)

/-- A sum, added in the order written. -/
def Numerics.sum (n : Numerics) : List NUM → NUM
  | [] => 0
  | a :: as => as.foldl n.add a

/-- The sign of a value; a NaN, like 0, has none. -/
def F32.sign : F32 → Int
  | .fin q => if q < 0 then -1 else if 0 < q then 1 else 0
  | .posInf => 1
  | .negInf => -1
  | .nan => 0

/-- An operand brought to the carrier. -/
def Numerics.operand (n : Numerics) : F32 → F32
  | .fin q => n.toCarrier q
  | .posInf => .posInf
  | .negInf => .negInf
  | .nan => .nan

/-- `*` where an infinity or a NaN is seen (R337): an overflow and a product with an infinity are infinite, and a
product of 0 with an infinity, or of anything with a NaN, is a NaN. -/
def Numerics.mulWide (n : Numerics) (a b : F32) : F32 :=
  match n.operand a, n.operand b with
  | .fin x, .fin y => n.toCarrier (x * y)
  | x, y => if 0 < x.sign * y.sign then .posInf else if x.sign * y.sign < 0 then .negInf else .nan

/-- A product, multiplied in the order written. -/
def Numerics.prod (n : Numerics) : List NUM → NUM
  | [] => 1
  | a :: as => as.foldl n.mul a

end Sys2Proof

namespace Sys2Proof.Machine

/-! ## Helpers (R11) -/

/-- `clamp(v, lo, hi)` on `NUM`. -/
def clamp (v lo hi : NUM) : NUM := if v < lo then lo else if hi < v then hi else v

/-- `clamp` on integers. -/
def clampInt (v lo hi : Int) : Int := if v < lo then lo else if hi < v then hi else v

/-- `frac(v) = v - floor(v)`. -/
def frac (n : Numerics) (v : NUM) : NUM := n.sub v (floor v)

/-- `lin(a, b, t) = a + (b - a)*t`. -/
def lin (n : Numerics) (a b t : NUM) : NUM := n.add a (n.mul (n.sub b a) t)

/-- `y + a*(x - y)`: one sample of a one-pole low-pass, the form of the smoother (R171), of each stage of the filter
(R249) and of the high-pass (R295). -/
def onePole (n : Numerics) (y a x : NUM) : NUM := n.add y (n.mul a (n.sub x y))

/-- `tag(v, n)`: round half up, then clamp to `0 .. n-1`. It selects, so it is exact in every NUM
(notes/assumptions/1.md). -/
def tag (v : NUM) (n : Nat) : Nat := (clampInt (floor (v + 1/2)) 0 ((n : Int) - 1)).toNat

/-! ## exp2 (R9)

`2^x` is `2^floor(x)` times a fixed-point mantissa: the fraction is cut to the bits of the configuration and the
exponential series is summed by Horner's rule on fixed-point numbers, every quotient rounded down. At the
reference precision it is exact at every integer, monotone, and within a relative error of 2^-56.
DESIGN CHOICE: notes/assumptions/2.md. -/

/-- The fixed-point one. -/
def fixedOne (n : Numerics) : Nat := 2 ^ n.bits

/-- `one + y/k * (one + y/(k+1) * (...))` to a number of terms, in units of `1/one`. -/
def expTail (one : Nat) : Nat → Nat → Nat → Nat
  | 0, _, _ => one
  | m + 1, k, y => one + y * expTail one m (k + 1) y / (k * one)

/-- `2^(j/one)` in fixed point, for `j` below the fixed-point one. -/
def exp2Mantissa (n : Numerics) (j : Nat) : Nat := expTail (fixedOne n) n.expTerms 1 (j * n.ln2 / fixedOne n)

/-- `2^x` at the precision of the configuration, not yet rounded to the carrier. -/
def exp2Series (n : Numerics) (x : NUM) : NUM :=
  pow2 (floor x) * ((exp2Mantissa n (floor ((x - floor x) * fixedOne n)).toNat : NUM) / fixedOne n)

/-- `exp2(x) = 2^x`. -/
def exp2 (n : Numerics) (x : NUM) : NUM := n.round (exp2Series n x)

/-! ## tanh (R9) -/

/-- `(1 - e)/(1 + e)`, rounded down to the fractional bits of the configuration. -/
def tanhQuotient (n : Numerics) (e : NUM) : NUM := (floor ((1 - e) / (1 + e) * fixedOne n) : NUM) / fixedOne n

/-- `tanh` of a number that is not negative, from `e^(-2x) = 2^(-x * 2/ln 2)`. -/
def tanhAbs (n : Numerics) (x : NUM) : NUM := n.round (tanhQuotient n (exp2Series n (-(x * n.twoLog2E))))

/-- `tanh`, an odd function. -/
def tanh (n : Numerics) (x : NUM) : NUM := if 0 ≤ x then tanhAbs n x else -tanhAbs n (-x)

/-! ## sin (R9) -/

/-- `one - z/(2k(2k+1)) * (one - z/((2k+2)(2k+3)) * (...))` to a number of terms, in units of `1/one`. -/
def sinTail (one : Nat) : Nat → Nat → Int → Int
  | 0, _, _ => (one : Int)
  | m + 1, k, z => (one : Int) - z * sinTail one m (k + 1) z / (2 * k * (2 * k + 1) * one : Nat)

/-- `sin` in fixed point, for an argument of at most about pi in magnitude. -/
def sinFixed (n : Numerics) (r : Int) : Int :=
  r * sinTail (fixedOne n) n.sinTerms 1 (r * r / fixedOne n) / fixedOne n

/-- `sin`, reduced to the half turn about 0 and kept in [-1, 1]. -/
def sin (n : Numerics) (x : NUM) : NUM :=
  let r := floor (x * fixedOne n)
  let turns := (r + n.twoPi / 2) / n.twoPi
  clamp (n.round ((sinFixed n (r - turns * n.twoPi) : NUM) / fixedOne n)) (-1) 1

/-! ## binary32 (R9, R88) -/

/-- `f32_decode`, exact on every finite pattern. -/
def f32Decode (v : Word32) : F32 :=
  let e : Nat := v.toNat / 2 ^ 23 % 2 ^ 8
  let f : Nat := v.toNat % 2 ^ 23
  let neg := v.toNat / 2 ^ 31 == 1
  if e = 255 then
    if f ≠ 0 then .nan else if neg then .negInf else .posInf
  else
    let mag : NUM := if e = 0 then pow2 (-149) * (f : NUM) else pow2 ((e : Int) - 150) * ((2 ^ 23 + f : Nat) : NUM)
    .fin (if neg then -mag else mag)

/-- `n/d` rounded to the nearest integer, ties to even. -/
def roundHalfEven (n d : Nat) : Nat :=
  let q := n / d
  let r := n % d
  if 2 * r < d then q else if d < 2 * r then q + 1 else if q % 2 = 0 then q else q + 1

/-- The low 31 bits of the binary32 pattern nearest to `n/d`, ties to even; the pattern of infinity where
the number is too large. -/
def f32Magnitude (n d : Nat) : Nat :=
  if n = 0 then 0
  else
    let e := max (floorLog2 n d) (-126)
    let sh := 23 - e
    let m := roundHalfEven (n * 2 ^ sh.toNat) (d * 2 ^ (-sh).toNat)
    min ((e + 126).toNat * 2 ^ 23 + m) 0x7F800000

/-- `f32_encode`: round to nearest, ties to even. -/
def f32Encode (q : NUM) : Word32 :=
  BitVec.ofNat 32 ((if q < 0 then 2 ^ 31 else 0) + f32Magnitude q.num.natAbs q.den)

/-! ## Notes and bends (R11) -/

/-- `base_freq(n) = 440 * exp2((n - 69)/12)`. -/
def baseFreq (n : Numerics) (note : Nat) : NUM :=
  n.mul Config.a4Hz (exp2 n (n.div (((note : Int) - Config.a4Note : Int) : NUM) Config.semitones))

/-- `bend_mul(s) = exp2(s/12)`. -/
def bendMulOf (n : Numerics) (s : NUM) : NUM := exp2 n (n.div s Config.semitones)

/-! ## Formulas and programs of the configuration -/

/-- The value of a formula, its variables numbered by their place in the list. -/
def evalExpr (n : Numerics) (env : List NUM) : Expr → NUM
  | .const q => q
  | .var i => env.getD i 0
  | .add a b => n.add (evalExpr n env a) (evalExpr n env b)
  | .sub a b => n.sub (evalExpr n env a) (evalExpr n env b)
  | .mul a b => n.mul (evalExpr n env a) (evalExpr n env b)
  | .div a b => n.div (evalExpr n env a) (evalExpr n env b)
  | .floor a => (floor (evalExpr n env a) : NUM)
  | .exp2 a => exp2 n (evalExpr n env a)
  | .tanh a => tanh n (evalExpr n env a)
  | .sin a => sin n (evalExpr n env a)
  | .ifLess a b t e => if evalExpr n env a < evalExpr n env b then evalExpr n env t else evalExpr n env e

/-- The variables and the local values after them. -/
def evalLocals (n : Numerics) : List Expr → List NUM → List NUM
  | [], env => env
  | e :: es, env => evalLocals n es (env ++ [evalExpr n env e])

/-- The new private state of a kernel given as a program, from its inputs and its private state. That it may hold on to
an earlier input, where the rules say of the reference kernel that a setting acts at once, is a DESIGN CHOICE:
notes/assumptions/4.md. -/
def runProgram (n : Numerics) (p : Program) (inputs aux : List NUM) : List NUM :=
  p.next.map (evalExpr n (evalLocals n p.locals (inputs ++ aux)))

/-- A bit as a number. -/
def bitNum (b : Bool) : NUM := if b then 1 else 0

/-- A value held in [-1, 1]. -/
def clampUnit (x : NUM) : NUM := clamp x (-1) 1

/-- A value held in [0, 1]. -/
def clampPart (x : NUM) : NUM := clamp x 0 1

/-! ## Curve tables (R160, R161) -/

/-- The piecewise-linear value at a clamped control value: the segment of the greatest breakpoint not above
it, the last segment at 1. A list with no segment is no table and gives 0. -/
def curveAt (n : Numerics) : Breakpoints → NUM → NUM
  | [], _ => 0
  | [_], _ => 0
  | [(x0, y0), (x1, y1)], u => lin n y0 y1 (n.div (n.sub u x0) (n.sub x1 x0))
  | (x0, y0) :: (x1, y1) :: p :: rest, u =>
    if u < x1 then lin n y0 y1 (n.div (n.sub u x0) (n.sub x1 x0)) else curveAt n ((x1, y1) :: p :: rest) u

/-- `CT(u)`, with the clamp of `u` to [0, 1]. -/
def curve (n : Numerics) (t : CurveTable) (u : NUM) : NUM :=
  match t with
  | .points bs => curveAt n bs (clamp u 0 1)
  | .closed e => evalExpr n [clamp u 0 1] e

end Sys2Proof.Machine
end

