-- ==== Sys2Proof/Machine/State.lean ====
section
/-! DEFINITION. The state of an HVE (R20 to R44) as plain data, the outcomes a step can have besides a next
state, and the state after hardware reset (R420). -/

namespace Sys2Proof.Machine

/-! ## Records of the state -/

/-- A one-pole smoother: current value and target (R39). -/
structure Smoother where
  y : NUM
  t : NUM
  deriving DecidableEq, Repr, Inhabited

/-- The five stages of an envelope (R36, R181). -/
inductive EnvStage where
  | idle
  | attack
  | decay
  | sustain
  | release
  deriving DecidableEq, Repr, Inhabited

/-- EnvState (R36). `aux` is the private state of an ENV_KERNEL given as a program, empty under the reference
kernel (R194). -/
structure EnvState where
  stage : EnvStage
  level : NUM
  aux   : List NUM
  deriving DecidableEq, Repr, Inhabited

/-- The sign of the sub-octave square, +1 or -1 (R37). -/
inductive Sign where
  | plus
  | minus
  deriving DecidableEq, Repr, Inhabited

/-- OscState (R37): the four level smoothers in the order saw, pulse, sub, noise, the reference kernel's phase
and sub-octave sign, and the private state of an OSC_KERNEL given as a program, in two parts. -/
structure OscState where
  saw      : Smoother
  pulse    : Smoother
  sub      : Smoother
  noise    : Smoother
  phase    : NUM
  subSign  : Sign
  aux      : List NUM
  noiseAux : List NUM
  deriving DecidableEq, Repr, Inhabited

/-- VcfState (R38): the reference kernel's four memories, and the private state of a VCF_KERNEL given as a
program. -/
structure VcfState where
  y1  : NUM
  y2  : NUM
  y3  : NUM
  y4  : NUM
  aux : List NUM
  deriving DecidableEq, Repr, Inhabited

/-- The VCA-mode tag (R34). -/
inductive VcaMode where
  | envelopeGated
  | gateSwitched
  deriving DecidableEq, Repr, Inhabited

/-- The PWM-source tag (R34). -/
inductive PwmSrc where
  | manual
  | lfoModulated
  | envelopeModulated
  deriving DecidableEq, Repr, Inhabited

/-- A voice record (R34). `note = none` is the spec's NONE. -/
structure Voice where
  active  : Bool
  note    : Option Nat
  freq    : NUM
  vel     : NUM
  bendMul : NUM
  vcaMode : VcaMode
  pwmSrc  : PwmSrc
  osc     : OscState
  vcf     : VcfState
  envA    : EnvState
  envG    : EnvState
  pwmSm   : Smoother
  deriving DecidableEq, Repr, Inhabited

/-- The seven shared smoothers SM[0..6], in the order of R40. -/
structure SharedSm where
  pitchMod : Smoother
  cutoff   : Smoother
  res      : Smoother
  envMod   : Smoother
  lfoMod   : Smoother
  kbdMod   : Smoother
  bendMod  : Smoother
  deriving DecidableEq, Repr, Inhabited

/-- The stages of the LFO's delay and ramp-in (R41). -/
inductive LfoStage where
  | off
  | delay
  | attack
  | run
  deriving DecidableEq, Repr, Inhabited

/-- LfoState (R41). `aux` is the private state of an LFO_KERNEL given as a program. -/
structure LfoState where
  phase : NUM
  out   : NUM
  stage : LfoStage
  cnt   : Nat
  ramp  : NUM
  hold  : NUM
  gate  : Bool
  aux   : List NUM
  deriving DecidableEq, Repr, Inhabited

/-- HP, the high-pass memory (R42): the reference kernel's `lp`, and the private state of an HPF_KERNEL given as
a program. -/
structure HpfState where
  lp  : NUM
  aux : List NUM
  deriving DecidableEq, Repr, Inhabited

/-- CH, the chorus memory (R42): the reference kernel's delay line, its write index and the two modulator phases
(R305), and the private state of a CHORUS_KERNEL given as a program. -/
structure ChorusState where
  line : List NUM
  w    : Nat
  ph0  : NUM
  ph1  : NUM
  aux  : List NUM
  deriving DecidableEq, Repr, Inhabited

/-- Everything INST_VALID guards: the parameter file (R21), VOLUME, OCTAVE, BEND_SEMI (R31 to R33), the
voice file (R34), the shared modulation file (R40, R41) and the effects file (R42). -/
structure Engine where
  /-- P[0..25]. -/
  params   : Vector NUM 26
  /-- VOLUME. -/
  volume   : NUM
  /-- OCTAVE. -/
  octave   : Int
  /-- BEND_SEMI. -/
  bendSemi : NUM
  /-- V[0..5]. -/
  voices   : Vector Voice 6
  /-- SM[0..6]. -/
  sm       : SharedSm
  /-- L. -/
  lfo      : LfoState
  /-- HP. -/
  hp       : HpfState
  /-- CH. -/
  chorus   : ChorusState
  deriving DecidableEq, Repr, Inhabited

/-- The state of the machine. -/
structure State where
  /-- The open parameters of this block (R6, R46): the MODEL's own field, the argument a model takes. No
  command writes it. See notes/assumptions/3.md. -/
  cfg       : Config
  /-- INST_VALID (R30). -/
  instValid : Bool
  /-- Everything that is unspecified while INST_VALID = 0 (R30). -/
  eng       : Engine
  /-- The number of frames rendered so far: the MODEL's own counter, the index of the next free draws. -/
  frameNo   : Nat
  /-- The MODEL's own counter, the index of the next free unspecified engine state. -/
  freeNo    : Nat
  /-- The command port's queue, the next word first (R80). -/
  cmdPort   : List Word64
  /-- The response port's queue, the oldest response first (R80). -/
  rspPort   : List Word64
  /-- The PCM port's queue, the oldest frame first (R80). -/
  pcmPort   : List Word32
  deriving DecidableEq, Repr, Inhabited

/-- The machine's faults: there is NONE. No command raises an exception and the step never stops the machine
(R400), so the type has no constructor; whoever asks whether a step can fault sees that it cannot. -/
inductive Fault where
  deriving DecidableEq, Repr

/-- The machine's refusals. -/
inductive Refusal where
  /-- Raised by `exec` for a row of the opcode table that has no meaning yet; safe. No arm raises it. -/
  | notModelled (mnemonic : String)
  deriving DecidableEq, Repr

/-- The type of a meaning's answer. -/
abbrev Result := Host.Outcome State Fault Refusal

end Sys2Proof.Machine

namespace Sys2Proof

/-- What the engine holds once `DESTROY` or a hardware reset has left it unspecified (R114, R420, U3): a FREE
VALUE for every use. See notes/assumptions/6.md. -/
opaque Config.unspecifiedEngine : Nat → Machine.Engine

end Sys2Proof

namespace Sys2Proof.Machine

/-! ## Hardware reset (R420) -/

/-- A smoother at rest at 0. -/
def Smoother.zero : Smoother := { y := 0, t := 0 }

/-- An envelope in Idle. -/
def EnvState.zero : EnvState := { stage := .idle, level := 0, aux := [] }

/-- An oscillator with its smoothers at 0. -/
def OscState.zero : OscState :=
  { saw := .zero, pulse := .zero, sub := .zero, noise := .zero, phase := 0, subSign := .plus, aux := []
    noiseAux := [] }

/-- A filter with no memory. -/
def VcfState.zero : VcfState := { y1 := 0, y2 := 0, y3 := 0, y4 := 0, aux := [] }

/-- An inactive voice, every number 0. -/
def Voice.zero : Voice :=
  { active := false, note := none, freq := 0, vel := 0, bendMul := 0, vcaMode := .envelopeGated,
    pwmSrc := .manual, osc := .zero, vcf := .zero, envA := .zero, envG := .zero, pwmSm := .zero }

/-- An engine with every number 0. The spec leaves all of it unspecified after hardware reset (R420) and
no rule reads it before a `CREATE`. DESIGN CHOICE, unsafe: see notes/assumptions/7.md. -/
def Engine.zero : Engine :=
  { params := Vector.replicate 26 0
    volume := 0
    octave := 0
    bendSemi := 0
    voices := Vector.replicate 6 .zero
    sm := { pitchMod := .zero, cutoff := .zero, res := .zero, envMod := .zero, lfoMod := .zero,
            kbdMod := .zero, bendMod := .zero }
    lfo := { phase := 0, out := 0, stage := .off, cnt := 0, ramp := 0, hold := 0, gate := false, aux := [] }
    hp := { lp := 0, aux := [] }
    chorus := { line := List.replicate 512 0, w := 0, ph0 := 0, ph1 := 0, aux := [] } }

/-- The machine right after hardware reset (R420): no instance, nothing on a port, the reference
configuration. -/
def State.reset : State :=
  { cfg := .reference
    instValid := false
    eng := .zero
    frameNo := 0
    freeNo := 0
    cmdPort := []
    rspPort := []
    pcmPort := [] }

end Sys2Proof.Machine
end

