-- ==== Sys2Proof/Machine/Operands.lean ====
section
/-! DEFINITION. The operand forms of the commands (R87 to R89, R96): what a rule makes of a field before it
uses it. Every narrowing is a clamp. -/

namespace Sys2Proof.Machine

/-- A `NUM` operand of field V clamped to `lo .. hi` (R88): the infinities go to the nearer bound, a NaN has
no value. -/
def numOperand (v : Word32) (lo hi : NUM) : Option NUM :=
  match f32Decode v with
  | .fin q => some (clamp q lo hi)
  | .posInf => some hi
  | .negInf => some lo
  | .nan => none

/-- HI[A], the upper end of the domain of P[A] (R21, R350): 2 for the two three-valued tags. -/
def paramHi (index : Nat) : NUM := if index = 3 ∨ index = 8 then 2 else 1

/-- `TransposedNote(A)` under the octave setting in force (R126). -/
def transposedNote (octave : Int) (a : Nat) : Nat :=
  (clampInt (a + Config.semitones * octave) 0 Config.noteMax).toNat

/-- The bend in semitones of a bend value, clamped to 16383 (R145). -/
def bendSemitones (n : Numerics) (b : Nat) : NUM :=
  n.mul (n.div (((min b Config.bendMax : Nat) : Int) - Config.bendCentre : Int) Config.bendDiv) Config.bendRange

/-- The octave setting of a signed operand, clamped to OCT_MIN .. OCT_MAX (R382). -/
def octaveSetting (c : Config) (b : Int) : Int := clampInt b c.octMin c.octMax

/-- F, the number of frames of a block (R321). -/
def frameCount (b : Nat) : Nat := min b Config.maxF

end Sys2Proof.Machine
end

