-- ==== Sys2Proof/Machine/Flags.lean ====
section
/-! DEFINITION. The HVE has no condition codes (R25): the tags (R23), the predicates the rules branch on
(R127, R195, R196, R200) and the status codes of the responses (R93, R401). -/

namespace Sys2Proof.Machine

/-! ## Tags, each a pure function of the parameter file (R23) -/

/-- Tag number to VCA mode (R21, R23). -/
def vcaModeOfTag (n : Nat) : VcaMode := if n = 0 then .envelopeGated else .gateSwitched

/-- Tag number to PWM source (R21, R23). -/
def pwmSrcOfTag (n : Nat) : PwmSrc :=
  if n = 0 then .manual else if n = 1 then .lfoModulated else .envelopeModulated

/-- VCA_SHARED. -/
def vcaShared (p : Vector NUM 26) : VcaMode := vcaModeOfTag (tag p[1] 2)

/-- PWM_SHARED. -/
def pwmShared (p : Vector NUM 26) : PwmSrc := pwmSrcOfTag (tag p[3] 3)

/-- RANGE_SEL. -/
def rangeSel (p : Vector NUM 26) : Nat := tag p[8] 3

/-- LFO_TRIG is Auto. -/
def lfoTrigAuto (p : Vector NUM 26) : Bool := tag p[20] 2 == 0

/-- CHORUS_EN1. -/
def chorusEn1 (p : Vector NUM 26) : Bool := tag p[24] 2 == 1

/-- CHORUS_EN2. -/
def chorusEn2 (p : Vector NUM 26) : Bool := tag p[25] 2 == 1

/-! ## Predicates -/

/-- `EnvActive(e)` (R195). -/
def envActive (e : EnvState) : Bool := e.stage != .idle

/-- `EnvReleased(e)` under the reading and threshold of the configuration (R196). -/
def envReleased (c : Config) (e : EnvState) : Bool :=
  match e.stage with
  | .idle => true
  | .release =>
    match c.releasedReading with
    | .completed => decide (e.level ≤ c.envReleasedEps)
    | .entered => true
  | .attack | .decay | .sustain => false

/-- `Cur(k)`, the current envelope of a voice (R200). -/
def currentEnv (v : Voice) : EnvState :=
  match v.vcaMode with
  | .envelopeGated => v.envA
  | .gateSwitched => v.envG

/-- `Sounding(k)` (R127). -/
def sounding (c : Config) (v : Voice) : Bool := v.active && !envReleased c (currentEnv v)

/-- The six slots in ascending order (R45). -/
def slots : List (Fin 6) := [0, 1, 2, 3, 4, 5]

/-- `first k in 0..5 with c(k)` (R10). -/
def firstSlot (vs : Vector Voice 6) (p : Voice → Bool) : Option (Fin 6) := slots.find? fun k => p vs[k]

/-- Some voice is sounding (R135). -/
def anySounding (c : Config) (vs : Vector Voice 6) : Bool := slots.any fun k => sounding c vs[k]

/-- Some voice other than `k` is sounding: `others` of R130. -/
def othersSounding (c : Config) (vs : Vector Voice 6) (k : Fin 6) : Bool :=
  slots.any fun j => j != k && sounding c vs[j]

/-- The number of active voices (R116). -/
def activeCount (vs : Vector Voice 6) : Nat := slots.countP fun k => vs[k].active

/-- The active mask, bit k for slot k (R116). -/
def activeMask (vs : Vector Voice 6) : Nat :=
  (slots.map fun k => if vs[k].active then 2 ^ k.val else 0).sum

/-! ## Status codes (R93) -/

/-- STATUS 0: executed. -/
def statusOk : Word8 := 0

/-- STATUS 1: no instance. -/
def statusNoinst : Word8 := 1

/-- STATUS 2: reserved opcode. -/
def statusBadop : Word8 := 2

/-- STATUS 3: parameter index outside 0 to 25. -/
def statusBadidx : Word8 := 3

/-- STATUS 4: field V held a NaN. -/
def statusBadval : Word8 := 4

end Sys2Proof.Machine
end

