-- ==== Sys2Proof/Machine/Ops.lean ====
section
/-! DEFINITION. The shared operations over the state: the ports (R80, R92, R94), the common prologue of the
commands (R110), the answers to what the decoder rejects (R84), register writes, the smoother (R171 to R173)
and hardware reset (R420). There is no exception to take and none to return from (R400): a condition is
reported in the response and nothing else (R401, R404). -/

namespace Sys2Proof.Machine

/-! ## Ports -/

/-- The response word: OP, STATUS, COUNT, VALUE (R92). -/
def responseWord (op status : Word8) (count : Word16) (value : Word32) : Word64 :=
  op ++ status ++ count ++ value

/-- `respond(status, count, value)`: one response on the response port (R92). -/
def State.respond (s : State) (op status : Word8) (count : Nat) (value : Word32) : State :=
  { s with rspPort := s.rspPort ++ [responseWord op status (BitVec.ofNat 16 count) value] }

/-- `respond(OK, 0, 0)`. -/
def State.ok (s : State) (op : Word8) : State := s.respond op statusOk 0 0

/-- The PCM frame of a pair of samples: left in bits 15:0, right in bits 31:16 (R94). -/
def frameWord (l r : Int) : Word32 := BitVec.ofInt 16 r ++ BitVec.ofInt 16 l

/-- `emit` for a block of frames, in ascending frame index (R94, R95). -/
def State.emit (s : State) (frames : List Word32) : State := { s with pcmPort := s.pcmPort ++ frames }

/-- The next word on the command port, and the state that has consumed it (R24, R80). -/
def State.takeCommand (s : State) : Option (Word64 × State) :=
  match s.cmdPort with
  | [] => none
  | w :: rest => some (w, { s with cmdPort := rest })

/-! ## Conditions (R110, R401, R403) -/

/-- The instance check every command but `CREATE` begins with (R110). -/
def withInstance (op : Word8) (s : State) (body : State → State) : Result :=
  if s.instValid then .next (body s) else .next (s.respond op statusNoinst 0 0)

/-- The check of a `NUM` operand: a NaN is answered BADVAL and changes nothing (R88, R401). -/
def withNum (op : Word8) (v : Word32) (lo hi : NUM) (s : State) (body : NUM → State) : State :=
  match numOperand v lo hi with
  | some q => body q
  | none => s.respond op statusBadval 0 0

/-- A reserved opcode: no state change, BADOP, whatever INST_VALID is (R84, R403). -/
def rejectReserved (op : Word8) (s : State) : Result := .next (s.respond op statusBadop 0 0)

/-- `PARAM` with an index outside 0 to 25: NOINST, else BADIDX; no state change (R84, R350, R403). -/
def rejectIndex (s : State) : Result :=
  withInstance opParam s fun s => s.respond opParam statusBadidx 0 0

/-! ## Register writes -/

/-- Replace the engine's state. -/
def State.setEng (s : State) (e : Engine) : State := { s with eng := e }

/-- `P[i] <- v` (R10). -/
def Engine.setParam (e : Engine) (i : Fin 26) (v : NUM) : Engine := { e with params := e.params.set i v }

/-- The same change to every voice record, active or not. -/
def Engine.mapVoices (e : Engine) (f : Voice → Voice) : Engine := { e with voices := e.voices.map f }

/-- The same change to the oscillator of every voice. -/
def Engine.mapOsc (e : Engine) (f : OscState → OscState) : Engine :=
  e.mapVoices fun u => { u with osc := f u.osc }

/-- A change to the shared smoothers. -/
def Engine.mapSm (e : Engine) (f : SharedSm → SharedSm) : Engine := { e with sm := f e.sm }

/-! ## The smoother -/

/-- `SmAdvance(s)`; the value used is the new `y` (R171). -/
def Smoother.advance (c : Config) (s : Smoother) : Smoother := { s with y := onePole c.num s.y c.smoothCoef s.t }

/-- `SmSnap(s)` (R172). -/
def Smoother.snap (s : Smoother) : Smoother := { s with y := s.t }

/-- `SmSetTarget(s, v)` (R173). -/
def Smoother.setTarget (s : Smoother) (v : NUM) : Smoother := { s with t := v }

/-- A smoother at rest at a value (R39, R421). -/
def Smoother.atRest (v : NUM) : Smoother := { y := v, t := v }

/-! ## Free values and hardware reset -/

/-- Leave the engine without an instance: INST_VALID 0 and every other element unspecified, a fresh free value
(R114, R420, R423, U3). -/
def State.release (s : State) : State :=
  { s with instValid := false, eng := Config.unspecifiedEngine s.freeNo, freeNo := s.freeNo + 1 }

/-- Hardware reset asserted on a running machine (R420): no instance, the rest unspecified, nothing pending on
the output ports. The host's event, not a command: no step performs it. -/
def State.hardwareReset (s : State) : State := { s.release with rspPort := [], pcmPort := [] }

end Sys2Proof.Machine
end

