-- ==== Sys2Proof/Machine/Filter.lean ====
section
/-! DEFINITION. The per-voice resonant low-pass filter (R240 to R255). -/

namespace Sys2Proof.Machine

/-- The base cutoff in octaves (R242). -/
def baseCutoffOct (n : Numerics) (cut res : NUM) : NUM :=
  n.add (n.mul cut Config.cutoffSliderOct) (n.mul res Config.resCutoffOct)

/-- The cutoff in octaves: five terms, added in the order written (R243). -/
def cutoffOct (n : Numerics) (baseOct envD envVal lfoD lfo ampVal kbdD : NUM) (note : Nat) (bendD bendSemi : NUM) :
    NUM :=
  n.sum
    [baseOct
    , n.prod [envD, envVal, Config.envModOct]
    , n.prod [lfoD, lfo, ampVal]
    , n.div (n.mul kbdD ((note : Int) - Config.kbdCentre : Int)) Config.semitones
    , n.prod [bendD, bendSemi, Config.bendVcfScale]]

/-- The cutoff in Hz (R243). -/
def cutoffHz (n : Numerics) (oct : NUM) : NUM := n.mul Config.cutoffBaseHz (exp2 n oct)

/-- `1 - e^(-2*pi*fc/FS)`, as R249 and R295 write it. -/
def onePoleCoef (n : Numerics) (fc : NUM) : NUM :=
  n.sub 1 (exp2 n (n.div (n.mul (-Config.twoPiOverLn2) fc) Config.fs))

/-- `VcfReset(s)`: the state does not depend on the filter it resets (R246). -/
def vcfReset (c : Config) : VcfState :=
  { y1 := 0, y2 := 0, y3 := 0, y4 := 0
    aux := match c.vcfKernel with
      | .reference => []
      | .program k => k.aux }

/-- The filter's state after the sample `x` at the cutoff `fc` in Hz and the resonance `r` (R248, R249). -/
def vcfAdvance (c : Config) (s : VcfState) (x fc r : NUM) : VcfState :=
  match c.vcfKernel with
  | .reference =>
    let a := onePoleCoef c.num (clamp fc c.cutoffMinHz c.cutoffMaxHz)
    let u := c.num.sub x (c.num.prod [c.resK, r, tanh c.num s.y4])
    let y1 := onePole c.num s.y1 a u
    let y2 := onePole c.num s.y2 a y1
    let y3 := onePole c.num s.y3 a y2
    let y4 := onePole c.num s.y4 a y3
    { s with y1 := y1, y2 := y2, y3 := y3, y4 := y4 }
  | .program k => { s with aux := runProgram c.num k.body [x, fc, r] s.aux }

/-- The sample of an advanced filter: the new `y4` of the reference kernel (R249). -/
def vcfOut (c : Config) (s : VcfState) (x fc r : NUM) : NUM :=
  match c.vcfKernel with
  | .reference => s.y4
  | .program k => evalExpr c.num ([x, fc, r] ++ s.aux) k.out

/-- `VcfSample(s, x, fc, r)` (R248, R249). -/
def vcfSample (c : Config) (s : VcfState) (x fc r : NUM) : VcfState × NUM :=
  (vcfAdvance c s x fc r, vcfOut c (vcfAdvance c s x fc r) x fc r)

end Sys2Proof.Machine
end

