-- ==== Sys2Proof/Machine/Effects.lean ====
section
/-! DEFINITION. The shared effects chain (R290 to R312): high-pass, amplifier, soft clipper, chorus. -/

namespace Sys2Proof.Machine

/-- The high-pass corner in Hz, CT_HPF(P[23]) (R166). -/
def hpfCorner (c : Config) (p : Vector NUM 26) : NUM := curve c.num c.ctHpf p[23]

/-- The memory of the high-pass at reset (R42). -/
def hpfReset (c : Config) : HpfState :=
  { lp := 0
    aux := match c.hpfKernel with
      | .reference => []
      | .program k => k.aux }

/-- The memory of the high-pass after the input `x` (R294, R295). A program sees P[23] unsmoothed in every frame; that
its private state may glide towards it (R375) is a DESIGN CHOICE: notes/assumptions/4.md. -/
def hpfAdvance (c : Config) (p : Vector NUM 26) (h : HpfState) (x : NUM) : HpfState :=
  match c.hpfKernel with
  | .reference => { h with lp := onePole c.num h.lp (onePoleCoef c.num (hpfCorner c p)) x }
  | .program k => { h with aux := runProgram c.num k.body [x, p[23], hpfCorner c p] h.aux }

/-- The output of an advanced high-pass (R294, R295). -/
def hpfOut (c : Config) (p : Vector NUM 26) (h : HpfState) (x : NUM) : NUM :=
  match c.hpfKernel with
  | .reference => c.num.sub x h.lp
  | .program k => evalExpr c.num ([x, p[23], hpfCorner c p] ++ h.aux) k.out

/-- `HpfSample(HP, x)` (R294, R295). -/
def hpfSample (c : Config) (p : Vector NUM 26) (h : HpfState) (x : NUM) : HpfState × NUM :=
  (hpfAdvance c p h x, hpfOut c p (hpfAdvance c p h x) x)

/-- `SoftClip(x)` (R300): `tanh(3x)`, a table of it over an interval the argument is clamped to (K3), or a closed
form; a table or a closed form is held in [-1, 1] (K1). -/
def softClip (c : Config) (x : NUM) : NUM :=
  match c.softClip with
  | .reference => tanh c.num (c.num.mul 3 x)
  | .sampled lo hi bs => clampUnit (curveAt c.num bs (c.num.div (c.num.sub (clamp x lo hi) lo) (c.num.sub hi lo)))
  | .closed e => clampUnit (evalExpr c.num [x] e)

/-- The cell of the delay line written `back` frames before index `w`, wrapping round the line (R305). -/
def lineAt (line : List NUM) (len w : Nat) (back : Int) : NUM := line.getD (((w : Int) - back) % (len : Int)).toNat 0

/-- `Tap(CH, d)`: the line read `d` samples back, linear between two cells (R305). -/
def tap (n : Numerics) (line : List NUM) (len w : Nat) (d : NUM) : NUM :=
  lin n (lineAt line len w (floor d)) (lineAt line len w (floor d + 1)) (n.sub d (floor d))

/-- The triangle modulator of a chorus stage, in [-1, 1] (R305). -/
def chorusTri (n : Numerics) (q : NUM) : NUM :=
  if q < 1/2 then n.sub (n.mul 4 q) 1 else n.sub 3 (n.mul 4 q)

/-- The chorus memory after the input `x` under the enables (R304 K1, K3): the reference kernel's line is written and
its phases are turned whatever the enables (R305). A program's private state sees the enables
and may fade a stage in or out, or record the input only while a stage is on; that R306's step without cross-fade, and
R376's line written whether or not a stage is on, bind the reference kernel alone is a DESIGN CHOICE:
notes/assumptions/4.md and 21.md. -/
def chorusAdvance (c : Config) (s : ChorusState) (x : NUM) (en1 en2 : Bool) : ChorusState :=
  match c.chorusKernel with
  | .reference =>
    { s with
      line := s.line.set s.w x
      w := (s.w + 1) % c.chLen
      ph0 := frac c.num (c.num.add s.ph0 (c.num.div c.chRate0 Config.fs))
      ph1 := frac c.num (c.num.add s.ph1 (c.num.div c.chRate1 Config.fs)) }
  | .program k => { s with aux := runProgram c.num k.body [x, bitNum en1, bitNum en2] s.aux }

/-- One stage's tap: `dir` is +1 on the left and -1 on the right. -/
def chorusTap (c : Config) (line : List NUM) (w : Nat) (ph dir : NUM) : NUM :=
  tap c.num line c.chLen w (c.num.add c.chBase (c.num.mul dir (c.num.mul c.chDepth (chorusTri c.num ph))))

/-- One channel of the reference chorus: the mean of the input and of the enabled stages' taps, the input where
neither is enabled (R305). -/
def chorusOut (c : Config) (line : List NUM) (w : Nat) (ph0 ph1 dir x : NUM) (en1 en2 : Bool) : NUM :=
  match en1, en2 with
  | false, false => x
  | true, false => c.num.div (c.num.add x (chorusTap c line w ph0 dir)) 2
  | false, true => c.num.div (c.num.add x (chorusTap c line w ph1 dir)) 2
  | true, true => c.num.div (c.num.add x (c.num.add (chorusTap c line w ph0 dir) (chorusTap c line w ph1 dir))) 3

/-- `ChorusSample(CH, x, en1, en2)` (R304). The reference kernel's taps use the write index before its increment
and the modulator phases after theirs (R305); the outputs of a program are held in [-1, 1] (K4). With neither stage
enabled both channels carry the input, whatever the kernel (R306). -/
def chorusSample (c : Config) (s : ChorusState) (x : NUM) (en1 en2 : Bool) : ChorusState × (NUM × NUM) :=
  let s' := chorusAdvance c s x en1 en2
  match c.chorusKernel with
  | .reference =>
    (s', (chorusOut c s'.line s.w s'.ph0 s'.ph1 1 x en1 en2, chorusOut c s'.line s.w s'.ph0 s'.ph1 (-1) x en1 en2))
  | .program k =>
    let env := [x, bitNum en1, bitNum en2] ++ s'.aux
    (s', if en1 || en2 then (clampUnit (evalExpr c.num env k.left), clampUnit (evalExpr c.num env k.right)) else (x, x))

/-- `EffectsFrame(i)`: the four stages in their order, for one sample of the mix (R290, R333). -/
def effectsFrame (c : Config) (p : Vector NUM 26) (m : HpfState × ChorusState) (x : NUM) :
    (HpfState × ChorusState) × (NUM × NUM) :=
  let h := hpfSample c p m.1 x
  let clipped := softClip c (c.num.mul h.2 (curve c.num c.ctVca p[0]))
  let r := chorusSample c m.2 clipped (chorusEn1 p) (chorusEn2 p)
  ((h.1, r.1), r.2)

end Sys2Proof.Machine
end

