-- ==== Sys2Proof/Machine/Envelope.lean ====
section
/-! DEFINITION. The ADSR envelope generator (R181 to R203). -/

namespace Sys2Proof.Machine

/-- `CfgA()`, the tunable envelope's configuration, read live (R185). -/
def cfgA (c : Config) (p : Vector NUM 26) : EnvCfg :=
  { attackS := curve c.num c.ctAttack p[16]
    decayS := curve c.num c.ctDecay p[17]
    sustain := curve c.num c.ctSustain p[18]
    releaseS := curve c.num c.ctDecay p[19] }

/-- The reset value of an envelope's private state (R36). -/
def envAux (c : Config) : List NUM :=
  match c.envKernel with
  | .reference => []
  | .program k => k.aux

/-- `EnvNoteOn(e)` (R191). -/
def envNoteOn (c : Config) (e : EnvState) : EnvState :=
  { e with
    stage := .attack
    level := match c.envRetrig with
      | .keep => e.level
      | .zero => 0 }

/-- `EnvNoteOff(e)` (R192). -/
def envNoteOff (e : EnvState) : EnvState :=
  match e.stage with
  | .attack | .decay | .sustain => { e with stage := .release }
  | .idle | .release => e

/-- `EnvShutdown(e)` (R193): the state does not depend on the envelope it shuts down. -/
def envShutdown (c : Config) : EnvState := { stage := .idle, level := 0, aux := envAux c }

/-! ## One sample of a segment (R190)

A segment answers the envelope after the sample and whether the segment has ended with it. What K2 to K6 ask of
every kernel is done here and in `envAdvance` once for all kernels; a program that asks for a level outside
[0, 1], or for one that turns back in Attack or Release, is held to the nearest level K3, K4 and K5 admit. -/

/-- The change of level in one sample of a segment that would cross 0 to 1 in `seconds` (R194). -/
def envStep (n : Numerics) (seconds : NUM) : NUM := n.div 1 (n.mul seconds Config.fs)

/-- What a program sees of an envelope and its configuration (R190 K1). -/
def envInputs (cfg : EnvCfg) (e : EnvState) : List NUM :=
  [e.level, cfg.attackS, cfg.decayS, cfg.sustain, cfg.releaseS]

/-- What a program's segment yields: the level it asks for, whether it ends, the private state. It sees the
configuration of this sample (R185); that its private state may hold an earlier one (R368 to R371) is a DESIGN CHOICE:
notes/assumptions/4.md. -/
def runSegment (n : Numerics) (g : EnvSegment) (cfg : EnvCfg) (e : EnvState) : NUM × Bool × List NUM :=
  let aux := runProgram n g.body (envInputs cfg e) e.aux
  let env := envInputs cfg e ++ aux
  (clampPart (evalExpr n env g.level), decide (0 < evalExpr n env g.done), aux)

/-- The private state after a sample in Idle, or in Sustain; the reference kernel has none. -/
def restingAux (c : Config) (body : EnvProgram → Program) (cfg : EnvCfg) (e : EnvState) : List NUM :=
  match c.envKernel with
  | .reference => e.aux
  | .program k => runProgram c.num (body k) (envInputs cfg e) e.aux

/-- A sample of the Attack segment: it ends at level 1, the highest there is, whatever the kernel (R181). That the peak
of a program may be lower, where its `done` ends the segment, is a DESIGN CHOICE: notes/assumptions/4.md. -/
def attackSegment (c : Config) (cfg : EnvCfg) (e : EnvState) : EnvState × Bool :=
  match c.envKernel with
  | .reference =>
    let l := c.num.add e.level (envStep c.num cfg.attackS)
    if 1 ≤ l then ({ e with level := 1 }, true) else ({ e with level := l }, false)
  | .program k =>
    let r := runSegment c.num k.attack cfg e
    let l := max e.level r.1
    ({ e with level := l, aux := r.2.2 }, r.2.1 || decide (1 ≤ l))

/-- A sample of the Decay segment: it ends where the level was already, or is now, at or below the sustain level,
whatever the kernel (R181, R370). That a program may end it sooner is a DESIGN CHOICE: notes/assumptions/4.md. -/
def decaySegment (c : Config) (cfg : EnvCfg) (e : EnvState) : EnvState × Bool :=
  match c.envKernel with
  | .reference =>
    let l := c.num.sub e.level (envStep c.num cfg.decayS)
    ({ e with level := l }, decide (l ≤ cfg.sustain))
  | .program k =>
    let r := runSegment c.num k.decay cfg e
    ({ e with level := r.1, aux := r.2.2 }, r.2.1 || decide (e.level ≤ cfg.sustain) || decide (r.1 ≤ cfg.sustain))

/-- A sample of the Release segment: it ends at ENV_IDLE_EPS whatever the kernel (R197 b, U8). That a program may end
it sooner is a DESIGN CHOICE: notes/assumptions/4.md. -/
def releaseSegment (c : Config) (cfg : EnvCfg) (e : EnvState) : EnvState × Bool :=
  match c.envKernel with
  | .reference =>
    let l := c.num.sub e.level (envStep c.num cfg.releaseS)
    ({ e with level := l }, decide (l ≤ c.envIdleEps))
  | .program k =>
    let r := runSegment c.num k.release cfg e
    let l := min e.level r.1
    ({ e with level := l, aux := r.2.2 }, r.2.1 || decide (l ≤ c.envIdleEps))

/-- `EnvAdvance(e, cfg)`; the value returned is the new level (R190, R194). The stages follow one another as K2
says, the level is 0 in Idle (K3) and the sustain level in Sustain (K6), whatever the kernel. -/
def envAdvance (c : Config) (cfg : EnvCfg) (e : EnvState) : EnvState :=
  match e.stage with
  | .idle => { e with level := 0, aux := restingAux c EnvProgram.idle cfg e }
  | .attack =>
    let r := attackSegment c cfg e
    { r.1 with stage := if r.2 then .decay else .attack }
  | .decay =>
    let r := decaySegment c cfg e
    if r.2 then { r.1 with stage := .sustain, level := cfg.sustain } else { r.1 with stage := .decay }
  | .sustain => { e with level := cfg.sustain, aux := restingAux c EnvProgram.sustain cfg e }
  | .release =>
    let r := releaseSegment c cfg e
    if r.2 then { r.1 with stage := .idle, level := 0 } else { r.1 with stage := .release }

end Sys2Proof.Machine
end

