-- ==== Sys2Proof/Machine/Oscillator.lean ====
section
/-! DEFINITION. The per-voice oscillator (R210 to R230). -/

namespace Sys2Proof.Machine

/-- +1 or -1. -/
def signNum : Sign → NUM
  | .plus => 1
  | .minus => -1

/-- The other sign. -/
def flipSign : Sign → Sign
  | .plus => .minus
  | .minus => .plus

/-- `draw()`: a free value brought into [-1, 1], the range R52 gives it. -/
def drawValue (r : NUM) : NUM := clamp r (-1) 1

/-- `OscSnap(o)` (R215). -/
def oscSnap (o : OscState) : OscState :=
  { o with saw := o.saw.snap, pulse := o.pulse.snap, sub := o.sub.snap, noise := o.noise.snap }

/-- The reset values of the two parts of an oscillator's private state (R37). -/
def oscAux (c : Config) : List NUM × List NUM :=
  match c.oscKernel with
  | .reference => ([], [])
  | .program k => (k.aux, k.noiseAux)

/-- `OscReset(o)` (R217). -/
def oscReset (c : Config) (o : OscState) : OscState :=
  { oscSnap o with phase := 0, subSign := .plus, aux := (oscAux c).1, noiseAux := (oscAux c).2 }

/-- The frequency the oscillator runs at (R213). -/
def oscFreq (n : Numerics) (p : Vector NUM 26) (freq detune : NUM) : NUM :=
  n.prod [freq, Config.rangeMul (rangeSel p), detune]

/-- The detune of a frame from the LFO and the smoothed pitch-mod depth (R228, R325). -/
def detuneOf (c : Config) (lfo pm : NUM) : NUM := exp2 c.num (c.num.prod [lfo, pm, c.pitchModOct])

/-- The value of a PWM source in a frame, by the mapping PWM_SOURCE (R223), from the LFO sample and the levels of the
tunable and of the current envelope. A gate envelope that is not current is not read (R201). -/
def pwmSource (c : Config) (src : PwmSrc) (lfo envVal ampVal : NUM) : NUM :=
  match src with
  | .manual => c.pwmSource.manual
  | .lfoModulated => evalExpr c.num [lfo] c.pwmSource.lfo
  | .envelopeModulated => evalExpr c.num [envVal, ampVal] c.pwmSource.env

/-- The four level smoothers advanced by one sample, whatever the kernel (R216, R220 K1). -/
def oscLevels (c : Config) (o : OscState) : OscState :=
  { o with saw := o.saw.advance c, pulse := o.pulse.advance c, sub := o.sub.advance c, noise := o.noise.advance c }

/-- The oscillator's state after one sample at frequency `f` with the PWM-mod value `pwm` and the draw (R216, R220,
R221). -/
def oscAdvance (c : Config) (o : OscState) (f pwm draw : NUM) : OscState :=
  match c.oscKernel with
  | .reference =>
    let p := c.num.add o.phase (c.num.div f Config.fs)
    { oscLevels c o with phase := frac c.num p, subSign := if 1 ≤ p then flipSign o.subSign else o.subSign }
  | .program k =>
    { oscLevels c o with
      aux := runProgram c.num k.body [f, pwm] o.aux
      noiseAux := runProgram c.num k.source [draw, f, pwm] o.noiseAux }

/-- The four waveforms of one sample. -/
structure OscWaves where
  saw   : NUM
  pulse : NUM
  sub   : NUM
  noise : NUM
  deriving DecidableEq, Repr, Inhabited

/-- The waveforms of an advanced oscillator, with the PWM-mod value `pwm` and the draw (R220, R221, R222). A
program's waveforms are held in [-1, 1] (K5). -/
def oscWaves (c : Config) (o : OscState) (pwm draw : NUM) : OscWaves :=
  match c.oscKernel with
  | .reference =>
    { saw := c.num.sub (c.num.mul 2 o.phase) 1
      pulse := if o.phase < c.num.add c.pwCentre (c.num.mul c.pwSpan pwm) then 1 else -1
      sub := signNum o.subSign
      noise := draw }
  | .program k =>
    { saw := clampUnit (evalExpr c.num o.aux k.saw)
      pulse := clampUnit (evalExpr c.num (pwm :: o.aux) k.pulse)
      sub := clampUnit (evalExpr c.num o.aux k.sub)
      noise := clampUnit (evalExpr c.num (draw :: o.noiseAux) k.noise) }

/-- The linear mix of an advanced oscillator's waveforms at its levels (R220 K1, R221). -/
def oscMix (c : Config) (o : OscState) (pwm draw : NUM) : NUM :=
  let w := oscWaves c o pwm draw
  c.num.sum [c.num.mul o.saw.y w.saw, c.num.mul o.pulse.y w.pulse, c.num.mul o.sub.y w.sub, c.num.mul o.noise.y w.noise]

/-- `OscSample(o, f, pwm)` under the draw of the sample (R220, R221). -/
def oscSample (c : Config) (o : OscState) (f pwm draw : NUM) : OscState × NUM :=
  (oscAdvance c o f pwm draw, oscMix c (oscAdvance c o f pwm draw) pwm draw)

end Sys2Proof.Machine
end

