-- ==== Sys2Proof/Machine/Lfo.lean ====
section
/-! DEFINITION. The shared LFO (R260 to R279). -/

namespace Sys2Proof.Machine

/-- `LfoShutdown(L)`: the whole record to its reset value (R263). -/
def lfoShutdown (c : Config) : LfoState :=
  { phase := 0, out := 0, stage := .off, cnt := 0, ramp := 0, hold := 0, gate := false
    aux := match c.lfoKernel with
      | .reference => []
      | .program k => k.aux }

/-- `LfoNoteOn(L)` (R264). -/
def lfoNoteOn (l : LfoState) : LfoState := { l with gate := true, stage := .delay, cnt := 0, ramp := 0 }

/-- `LfoNoteOff(L)` (R265). -/
def lfoNoteOff (l : LfoState) : LfoState := { l with gate := false }

/-- The Delay part of an advance, with the delay `d` in samples (R271). -/
def lfoDelayStep (d : NUM) (l : LfoState) : LfoState :=
  match l.stage with
  | .delay => if d ≤ (l.cnt : NUM) then { l with stage := .attack, cnt := 0 } else { l with cnt := l.cnt + 1 }
  | .off | .attack | .run => l

/-- The Attack part of an advance, with the ramp-in `a > 0` in samples; the stage is Run when the ramp is 1, in exact
arithmetic when the count has reached `a` (R271). -/
def lfoAttackStep (n : Numerics) (a : NUM) (l : LfoState) : LfoState :=
  match l.stage with
  | .attack =>
    let k := l.cnt + 1
    let r : NUM := if (k : NUM) < a then n.div k a else 1
    { l with cnt := k, ramp := r, stage := if r = 1 then .run else .attack }
  | .off | .delay | .run => l

/-- The Triangle waveform (R273). -/
def triangleWave (n : Numerics) (q : NUM) : NUM :=
  if q < 1/4 then n.mul 4 q else if q < 3/4 then n.sub 2 (n.mul 4 q) else n.sub (n.mul 4 q) 4

/-- The held value after the advance: only the Random waveform takes a draw into it, on a wrap (R273). -/
def lfoHold (c : Config) (wrapped : Bool) (draw hold : NUM) : NUM :=
  match c.lfoWave with
  | .random => if wrapped then draw else hold
  | .triangle | .sine | .square | .noise => hold

/-- The waveform at the phase `q` after the advance (R273). -/
def lfoWaveAt (c : Config) (q hold draw : NUM) : NUM :=
  match c.lfoWave with
  | .triangle => triangleWave c.num q
  | .sine => sin c.num (c.num.mul Config.twoPiLfo q)
  | .square => if q < 1/2 then 1 else -1
  | .random => hold
  | .noise => draw

/-- The LFO's frequency in Hz, its delay and its ramp-in in samples, read live (R261). -/
def lfoRateHz (c : Config) (p : Vector NUM 26) : NUM := curve c.num c.ctLfoRate p[21]

def lfoDelaySamples (c : Config) (p : Vector NUM 26) : NUM := c.num.mul (curve c.num c.ctLfoDelay p[22]) Config.fs

def lfoAttackSamples (c : Config) (p : Vector NUM 26) : NUM := c.num.mul (curve c.num c.ctLfoAttack p[22]) Config.fs

/-- The delay and the ramp-in counted on by one sample, from the count reached so far (R271, R272). Every kernel
counts them so; that a later P[22] does not bring the ramp of a program back once it is full is R271's and, for a
program, a DESIGN CHOICE: notes/assumptions/4.md. -/
def lfoCount (c : Config) (p : Vector NUM 26) (l : LfoState) : LfoState :=
  lfoAttackStep c.num (lfoAttackSamples c p) (lfoDelayStep (lfoDelaySamples c p) l)

/-- The gain at the part `u` of the ramp-in: 0 before it and full after it, whatever the kernel, and in between `u`
itself in the reference kernel (R271) or a program's formula held in [0, 1] (R269 K2, K3). -/
def lfoGain (c : Config) (u : NUM) : NUM :=
  match c.lfoKernel with
  | .reference => u
  | .program k => if u ≤ 0 then 0 else if 1 ≤ u then 1 else clampPart (evalExpr c.num [u] k.ramp)

/-- The number of a waveform, in the order of R266. -/
def lfoWaveNumber : LfoWave → NUM
  | .triangle => 0
  | .sine => 1
  | .square => 2
  | .random => 3
  | .noise => 4

/-- The draw a program sees: none but for the Random waveform, where a cycle begins, and for Noise (R269 K2, K4). That
Random draws once per cycle is R273's and, for a program, a DESIGN CHOICE: notes/assumptions/4.md. -/
def lfoDrawSeen (c : Config) (wrapped : Bool) (draw : NUM) : NUM :=
  match c.lfoWave with
  | .triangle | .sine | .square => 0
  | .random => if wrapped then draw else 0
  | .noise => draw

/-- A sample of the waveform on a counted LFO: the record with its phase and private state moved, and the waveform in
[-1, 1] (R269 K3, R271, R273). The phase, the position in the cycle (R41), moves at the frequency of the LFO whatever
the kernel (K2). -/
def lfoWaveform (c : Config) (p : Vector NUM 26) (draw : NUM) (l : LfoState) : LfoState × NUM :=
  let ph := c.num.add l.phase (c.num.div (lfoRateHz c p) Config.fs)
  let q := frac c.num ph
  let wrapped := decide (1 ≤ ph)
  match c.lfoKernel with
  | .reference =>
    let hold := lfoHold c wrapped draw l.hold
    ({ l with phase := q, hold := hold }, lfoWaveAt c q hold draw)
  | .program k =>
    let inputs := [lfoRateHz c p, p[21], p[22], lfoWaveNumber c.lfoWave, lfoDrawSeen c wrapped draw, bitNum l.gate, q,
      bitNum wrapped]
    let aux := runProgram c.num k.body inputs l.aux
    ({ l with phase := q, aux := aux }, clampUnit (evalExpr c.num (inputs ++ aux) k.wave))

/-- `LfoAdvance(L)` under the draw of this frame; the sample is the new `out` (R269 K5, R271). In stage Off it is 0
and nothing moves, whatever the kernel (K1, R274). -/
def lfoAdvance (c : Config) (p : Vector NUM 26) (draw : NUM) (l : LfoState) : LfoState :=
  match l.stage with
  | .off => { l with out := 0 }
  | .delay | .attack | .run =>
    let w := lfoWaveform c p draw (lfoCount c p l)
    { w.1 with out := c.num.mul w.2 (lfoGain c w.1.ramp) }

end Sys2Proof.Machine
end

