-- ==== Sys2Proof/Machine/Lifecycle.lean ====
section
/-! DEFINITION. The lifecycle and status commands: `CREATE`, `DESTROY`, `GETVC` (R110 to R116, R421). -/

namespace Sys2Proof.Machine

/-- The oscillator after `CREATE` (R37, R421). -/
def initialOsc (c : Config) : OscState :=
  { saw := .atRest c.paramDefault[4]
    pulse := .atRest c.paramDefault[5]
    sub := .atRest c.paramDefault[6]
    noise := .atRest c.paramDefault[7]
    phase := 0
    subSign := .plus
    aux := (oscAux c).1
    noiseAux := (oscAux c).2 }

/-- A voice record after `CREATE` (R34, R421). -/
def initialVoice (c : Config) : Voice :=
  { active := false
    note := none
    freq := 0
    vel := 0
    bendMul := 1
    vcaMode := vcaShared c.paramDefault
    pwmSrc := pwmShared c.paramDefault
    osc := initialOsc c
    vcf := vcfReset c
    envA := envShutdown c
    envG := envShutdown c
    pwmSm := .atRest c.paramDefault[2] }

/-- The shared smoothers after `CREATE` (R40, R421). -/
def initialSm (c : Config) : SharedSm :=
  { pitchMod := .atRest c.paramDefault[9]
    cutoff := .atRest c.paramDefault[10]
    res := .atRest c.paramDefault[11]
    envMod := .atRest c.paramDefault[12]
    lfoMod := .atRest c.paramDefault[13]
    kbdMod := .atRest c.paramDefault[14]
    bendMod := .atRest c.paramDefault[15] }

/-- The chorus after `CREATE` (R42, R421). -/
def initialChorus (c : Config) : ChorusState :=
  { line := List.replicate c.chLen 0, w := 0, ph0 := 0, ph1 := 0
    aux := match c.chorusKernel with
      | .reference => []
      | .program k => k.aux }

/-- The whole engine after `CREATE`, whatever it held before (R421). -/
def initialEngine (c : Config) : Engine :=
  { params := c.paramDefault
    volume := c.volumeDefault
    octave := c.octaveDefault
    bendSemi := 0
    voices := Vector.replicate 6 (initialVoice c)
    sm := initialSm c
    lfo := lfoShutdown c
    hp := hpfReset c
    chorus := initialChorus c }

/-- `CREATE` (R112): OK always, whatever INST_VALID was. -/
def execCreate (s : State) : Result :=
  .next ({ s.setEng (initialEngine s.cfg) with instValid := true }.ok opCreate)

/-- `DESTROY` (R114): INST_VALID cleared, every other element unspecified. -/
def execDestroy (s : State) : Result := withInstance opDestroy s fun s => s.release.ok opDestroy

/-- `GETVC` (R116). -/
def execGetvc (s : State) : Result :=
  withInstance opGetvc s fun s =>
    s.respond opGetvc statusOk (activeCount s.eng.voices) (BitVec.ofNat 32 (activeMask s.eng.voices))

end Sys2Proof.Machine
end

