-- ==== Sys2Proof/Machine/Render.lean ====
section
/-! DEFINITION. The block renderer (R320 to R342): `RENDER`. -/

namespace Sys2Proof.Machine

/-- A unit run over a block: one output per input, the state handed on from sample to sample. -/
def scanBlock {σ α β : Type} (f : σ → α → σ × β) : σ → List α → σ × List β
  | s, [] => (s, [])
  | s, a :: as => ((scanBlock f (f s a).1 as).1, (f s a).2 :: (scanBlock f (f s a).1 as).2)

/-- The draws of a block: a raw value for every unit and frame number (R52, R338). -/
abbrev Draws := RandUnit → Nat → NUM

/-- What the shared modulation gives the voices in one frame (R322 to R325); `frame` is the frame number the
draws are indexed by. -/
structure ModFrame where
  frame   : Nat
  lfo     : NUM
  detune  : NUM
  baseOct : NUM
  res     : NUM
  envD    : NUM
  lfoD    : NUM
  kbdD    : NUM
  bendD   : NUM
  deriving DecidableEq, Repr, Inhabited

/-- Step 2 for one frame (R323). -/
def lfoFrame (c : Config) (p : Vector NUM 26) (draws : Draws) (l : LfoState) (t : Nat) : LfoState × (Nat × NUM) :=
  let l' := lfoAdvance c p (drawValue (draws .lfo t)) l
  (l', (t, l'.out))

/-- All seven shared smoothers advanced by one sample (R324). -/
def smAdvanceAll (c : Config) (sm : SharedSm) : SharedSm :=
  { pitchMod := sm.pitchMod.advance c
    cutoff := sm.cutoff.advance c
    res := sm.res.advance c
    envMod := sm.envMod.advance c
    lfoMod := sm.lfoMod.advance c
    kbdMod := sm.kbdMod.advance c
    bendMod := sm.bendMod.advance c }

/-- `SharedMod(i)` (R324, R325). -/
def sharedMod (c : Config) (sm : SharedSm) (x : Nat × NUM) : SharedSm × ModFrame :=
  let sm' := smAdvanceAll c sm
  (sm',
    { frame := x.1
      lfo := x.2
      detune := detuneOf c x.2 sm'.pitchMod.y
      baseOct := baseCutoffOct c.num sm'.cutoff.y sm'.res.y
      res := sm'.res.y
      envD := sm'.envMod.y
      lfoD := c.num.mul Config.lfoModOct sm'.lfoMod.y
      kbdD := sm'.kbdMod.y
      bendD := sm'.bendMod.y })

/-- The envelopes of an active voice advanced by one sample: the tunable one in every mode, the gate one in
GateSwitched mode (R202, R326). -/
def advanceEnvelopes (c : Config) (p : Vector NUM 26) (v : Voice) : Voice :=
  { v with
    envA := envAdvance c (cfgA c p) v.envA
    envG := match v.vcaMode with
      | .gateSwitched => envAdvance c Config.gateEnv v.envG
      | .envelopeGated => v.envG }

/-- The note of a voice as a number. A voice whose note is NONE is inactive and never rendered
(notes/assumptions/9.md). -/
def noteNumber (v : Voice) : Nat := v.note.getD 0

/-- `VoiceFrame(k, i)`: one sample of one active voice and what it adds to the mix (R329, R331). -/
def voiceFrame (c : Config) (p : Vector NUM 26) (bendSemi : NUM) (draw : Nat → NUM) (v : Voice) (m : ModFrame) :
    Voice × NUM :=
  let v1 := advanceEnvelopes c p v
  let envVal := v1.envA.level
  let ampVal := (currentEnv v1).level
  let pwmSm := v.pwmSm.advance c
  let pwm := c.num.mul pwmSm.y (pwmSource c v.pwmSrc m.lfo envVal ampVal)
  let osc := oscSample c v.osc (oscFreq c.num p v.freq m.detune) pwm (drawValue (draw m.frame))
  let oct := cutoffOct c.num m.baseOct m.envD envVal m.lfoD m.lfo ampVal m.kbdD (noteNumber v) m.bendD bendSemi
  let vcf := vcfSample c v.vcf osc.2 (cutoffHz c.num oct) m.res
  ({ v1 with pwmSm := pwmSm, osc := osc.1, vcf := vcf.1 },
    c.num.div (c.num.prod [vcf.2, ampVal, v.vel, v.vel]) Config.mixDiv)

/-- `VoiceDeactivate(k)` (R129). -/
def voiceDeactivate (v : Voice) : Voice := { v with active := false, note := none }

/-- `DeactivationCheck(k)` (R332). -/
def deactivationCheck (c : Config) (v : Voice) : Voice :=
  if envActive (currentEnv v) then v
  else voiceDeactivate
    { v with envA := envShutdown c, envG := envShutdown c, osc := oscReset c v.osc, vcf := vcfReset c }

/-- Step 4 for one slot: an active voice is run over the whole block, checked, and added to the mix; an
inactive one is skipped (R322, R327). -/
def renderSlot (c : Config) (p : Vector NUM 26) (bendSemi : NUM) (draws : Draws) (mods : List ModFrame)
    (acc : Vector Voice 6 × List NUM) (k : Fin 6) : Vector Voice 6 × List NUM :=
  if acc.1[k].active then
    let r := scanBlock (voiceFrame c p bendSemi (draws (.voice k))) acc.1[k] mods
    (acc.1.set k (deactivationCheck c r.1), List.zipWith c.num.add acc.2 r.2)
  else acc

/-- What a block leaves and yields: the engine's state and the effects chain's output (R322). -/
structure Block where
  eng : Engine
  out : List (NUM × NUM)
  deriving DecidableEq, Repr, Inhabited

/-- `RenderBlock(F)` up to step 5, for the frames numbered from `t` (R322, R323). -/
def renderBlock (c : Config) (draws : Draws) (t frames : Nat) (e : Engine) : Block :=
  let lfo := scanBlock (lfoFrame c e.params draws) e.lfo (List.range' t frames)
  let mods := scanBlock (sharedMod c) e.sm lfo.2
  let voices := slots.foldl (renderSlot c e.params e.bendSemi draws mods.2) (e.voices, List.replicate frames 0)
  let fx := scanBlock (effectsFrame c e.params) (e.hp, e.chorus) voices.2
  { eng := { e with lfo := lfo.1, sm := mods.1, voices := voices.1, hp := fx.1.1, chorus := fx.1.2 }
    out := fx.2 }

/-- A scaled sample without its fraction (R337). A sample never wraps, so a sum of `nearest` that rounds up past the
largest sample stays at it. -/
def pcmRound (c : Config) (x : NUM) : Int :=
  match c.pcmRound with
  | .truncate => if 0 ≤ x then floor x else -floor (-x)
  | .nearest => clampInt (floor (c.num.add x (1/2))) Config.pcmMin Config.pcmMax

/-- A sample scaled by MASTER_GAIN, VOLUME and PCM_SCALE, which may overflow a finite-precision NUM (R337, U17). -/
def pcmScaled (c : Config) (volume : NUM) (x : F32) : F32 :=
  c.num.mulWide (c.num.mulWide (c.num.mulWide x (.fin c.masterGain)) (.fin volume)) (.fin Config.pcmScale)

/-- `PcmConvert(x)` at a volume: a NaN gives 0; saturate, infinities too, then convert (R337). -/
def pcmConvert (c : Config) (volume : NUM) (x : F32) : Int :=
  match pcmScaled c volume x with
  | .nan => 0
  | .posInf => Config.pcmMax
  | .negInf => Config.pcmMin
  | .fin s =>
    if (Config.pcmMax : NUM) ≤ s then Config.pcmMax
    else if s ≤ (Config.pcmMin : NUM) then Config.pcmMin
    else pcmRound c s

/-- Step 6 (R334): the PCM frames of a block's output. -/
def pcmFrames (c : Config) (volume : NUM) (out : List (NUM × NUM)) : List Word32 :=
  out.map fun x => frameWord (pcmConvert c volume (.fin x.1)) (pcmConvert c volume (.fin x.2))

/-- `RenderBlock(F)` on a state with an instance: the block rendered, its frames emitted, the audio time
counted (R322, R409). -/
def renderFrames (draws : Draws) (frames : Nat) (s : State) : State :=
  let r := renderBlock s.cfg draws s.frameNo frames s.eng
  { (s.setEng r.eng).emit (pcmFrames s.cfg s.eng.volume r.out) with frameNo := s.frameNo + frames }

/-- `RENDER` under given draws (R320, R321): with no instance, silence and NOINST. -/
def renderWith (draws : Draws) (b : Nat) (s : State) : State :=
  if s.instValid then (renderFrames draws (frameCount b) s).respond opRender statusOk (frameCount b) 0
  else (s.emit (List.replicate (frameCount b) 0)).respond opRender statusNoinst (frameCount b) 0

/-- `RENDER frames` (R320). -/
def execRender (b : Nat) (s : State) : Result := .next (renderWith Config.rand b s)

end Sys2Proof.Machine
end

