-- ==== Sys2Proof/Machine/Notes.lean ====
section
/-! DEFINITION. The note commands and the voice scheduler: `NOTEON`, `NOTEOFF`, `CC`, `BEND` (R126 to R146). -/

namespace Sys2Proof.Machine

/-- `Alloc()`: the first inactive slot, else the first released one, else slot 0 (R128). -/
def alloc (c : Config) (vs : Vector Voice 6) : Fin 6 :=
  match firstSlot vs fun v => !v.active with
  | some k => k
  | none =>
    match firstSlot vs fun v => envReleased c (currentEnv v) with
    | some k => k
    | none => 0

/-- The frequency of a note under a bend, without the pitch-range multiplier (R130, R145, C1). -/
def tunedFreq (n : Numerics) (note : Nat) (bendSemi : NUM) : NUM :=
  n.mul (baseFreq n note) (bendMulOf n bendSemi)

/-- What `NOTEON` writes into the voice it allocates (R130, R131). -/
def strikeVoice (c : Config) (p : Vector NUM 26) (bendSemi : NUM) (note : Nat) (vel : NUM) (v : Voice) : Voice :=
  { v with
    active := true
    note := some note
    vel := vel
    bendMul := bendMulOf c.num bendSemi
    freq := tunedFreq c.num note bendSemi
    vcaMode := vcaShared p
    envA := envNoteOn c v.envA
    envG := envNoteOn c v.envG
    osc := oscSnap v.osc }

/-- The engine after a note-on of note `n` (R130). -/
def noteOnEngine (c : Config) (e : Engine) (n : Nat) (vel : NUM) : Engine :=
  let k := alloc c e.voices
  { e with
    voices := e.voices.set k (strikeVoice c e.params e.bendSemi n vel e.voices[k])
    lfo := if lfoTrigAuto e.params && !othersSounding c e.voices k then lfoNoteOn e.lfo else e.lfo }

/-- `NOTEON note, velocity` (R130). -/
def execNoteon (note : Nat) (velocity : Word32) (s : State) : Result :=
  withInstance opNoteon s fun s => withNum opNoteon velocity 0 1 s fun vel =>
    (s.setEng (noteOnEngine s.cfg s.eng (transposedNote s.eng.octave note) vel)).ok opNoteon

/-- A voice `NOTEOFF` can match: active, not yet released, and holding the note (R135). -/
def holdsNote (c : Config) (n : Nat) (v : Voice) : Bool :=
  v.active && !envReleased c (currentEnv v) && v.note == some n

/-- Both envelopes of a voice released (R135, R201). -/
def releaseVoice (v : Voice) : Voice := { v with envA := envNoteOff v.envA, envG := envNoteOff v.envG }

/-- The engine after a note-off of note `n` (R135). -/
def noteOffEngine (c : Config) (e : Engine) (n : Nat) : Engine :=
  match firstSlot e.voices (holdsNote c n) with
  | none => e
  | some k =>
    let vs := e.voices.set k (releaseVoice e.voices[k])
    { e with
      voices := vs
      lfo := if lfoTrigAuto e.params && !anySounding c vs then lfoNoteOff e.lfo else e.lfo }

/-- `NOTEOFF note` (R135). -/
def execNoteoff (note : Nat) (s : State) : Result :=
  withInstance opNoteoff s fun s =>
    (s.setEng (noteOffEngine s.cfg s.eng (transposedNote s.eng.octave note))).ok opNoteoff

/-- What all-notes-off does to one voice (R141): an active one is shut down and deactivated, oscillator and filter
untouched (R142). -/
def silenceVoice (c : Config) (v : Voice) : Voice :=
  if v.active then voiceDeactivate { v with envA := envShutdown c, envG := envShutdown c } else v

/-- `CC number, value` (R140): 120 and 123 are all-notes-off, every other number changes nothing; the value is
read by no rule. -/
def execCc (number _value : Nat) (s : State) : Result :=
  withInstance opCc s fun s =>
    if number = Config.ccAllSoundOff ∨ number = Config.ccAllNotesOff then
      (s.setEng (s.eng.mapVoices (silenceVoice s.cfg))).ok opCc
    else s.ok opCc

/-- What `BEND` does to one voice (R145): only an active one is retuned. -/
def bendVoice (n : Numerics) (bendSemi : NUM) (v : Voice) : Voice :=
  if v.active then { v with bendMul := bendMulOf n bendSemi, freq := tunedFreq n (noteNumber v) bendSemi } else v

/-- The engine after a bend to `b` semitones (R145). -/
def bendEngine (n : Numerics) (e : Engine) (b : NUM) : Engine := { e.mapVoices (bendVoice n b) with bendSemi := b }

/-- `BEND value` (R145). -/
def execBend (value : Nat) (s : State) : Result :=
  withInstance opBend s fun s => (s.setEng (bendEngine s.cfg.num s.eng (bendSemitones s.cfg.num value))).ok opBend

end Sys2Proof.Machine
end

