-- ==== Sys2Proof/Machine/Params.lean ====
section
/-! DEFINITION. The parameter, volume and octave commands: the 26 `PARAM.<name>`, `GETP`, `SETVOL`, `GETVOL`,
`SETOCT`, `GETOCT` (R350 to R387). -/

namespace Sys2Proof.Machine

/-- `Effect_A(old, c)`: what a `PARAM` does besides the register write, under the configuration (R350). -/
abbrev ParamEffect := Config → NUM → NUM → Engine → Engine

/-- No fan-out. -/
def noEffect : ParamEffect := fun _ _ _ e => e

/-- The engine after `P[i] <- x` and the effect of index `i` (R350). -/
def paramEngine (c : Config) (i : Fin 26) (effect : ParamEffect) (x : NUM) (e : Engine) : Engine :=
  effect c e.params[i] x (e.setParam i x)

/-- The common rule of the 26 sub-commands (R350, R351). -/
def paramWith (i : Fin 26) (effect : ParamEffect) (v : Word32) (s : State) : Result :=
  withInstance opParam s fun s => withNum opParam v 0 (paramHi i) s fun x =>
    (s.setEng (paramEngine s.cfg i effect x s.eng)).ok opParam

/-! ## Fan-outs -/

/-- `Effect_2` (R354). -/
def effectDcoPwmDepth : ParamEffect := fun _ _ x e => e.mapVoices fun u => { u with pwmSm := u.pwmSm.setTarget x }

/-- `Effect_3` (R355). -/
def effectDcoPwmMod : ParamEffect := fun _ _ x e => e.mapVoices fun u => { u with pwmSrc := pwmSrcOfTag (tag x 3) }

/-- `Effect_4` (R356). -/
def effectDcoSawLevel : ParamEffect := fun _ _ x e => e.mapOsc fun o => { o with saw := o.saw.setTarget x }

/-- `Effect_5` (R357). -/
def effectDcoPulseLevel : ParamEffect := fun _ _ x e => e.mapOsc fun o => { o with pulse := o.pulse.setTarget x }

/-- `Effect_6` (R358). -/
def effectDcoSubLevel : ParamEffect := fun _ _ x e => e.mapOsc fun o => { o with sub := o.sub.setTarget x }

/-- `Effect_7` (R359). -/
def effectDcoNoiseLevel : ParamEffect := fun _ _ x e => e.mapOsc fun o => { o with noise := o.noise.setTarget x }

/-- `Effect_9` (R361). -/
def effectDcoPitchMod : ParamEffect := fun _ _ x e => e.mapSm fun m => { m with pitchMod := m.pitchMod.setTarget x }

/-- `Effect_10` (R362). -/
def effectVcfCutoff : ParamEffect := fun _ _ x e => e.mapSm fun m => { m with cutoff := m.cutoff.setTarget x }

/-- `Effect_11` (R363). -/
def effectVcfResonance : ParamEffect := fun _ _ x e => e.mapSm fun m => { m with res := m.res.setTarget x }

/-- `Effect_12` (R364). -/
def effectVcfEnvMod : ParamEffect := fun _ _ x e => e.mapSm fun m => { m with envMod := m.envMod.setTarget x }

/-- `Effect_13` (R365). -/
def effectVcfLfoMod : ParamEffect := fun _ _ x e => e.mapSm fun m => { m with lfoMod := m.lfoMod.setTarget x }

/-- `Effect_14` (R366). -/
def effectVcfKbdMod : ParamEffect := fun _ _ x e => e.mapSm fun m => { m with kbdMod := m.kbdMod.setTarget x }

/-- `Effect_15` (R367). -/
def effectVcfBendMod : ParamEffect := fun _ _ x e => e.mapSm fun m => { m with bendMod := m.bendMod.setTarget x }

/-- `Effect_20` (R372). -/
def effectLfoTrigMode : ParamEffect := fun c old x e =>
  if tag old 2 = tag x 2 then e else { e with lfo := lfoShutdown c }

/-! ## The sub-commands -/

/-- `PARAM.VCA_DEPTH value` (R352). -/
def execParamVcaDepth (v : Word32) (s : State) : Result := paramWith 0 noEffect v s

/-- `PARAM.VCA_TYPE value` (R353). -/
def execParamVcaType (v : Word32) (s : State) : Result := paramWith 1 noEffect v s

/-- `PARAM.DCO_PWM_DEPTH value` (R354). -/
def execParamDcoPwmDepth (v : Word32) (s : State) : Result := paramWith 2 effectDcoPwmDepth v s

/-- `PARAM.DCO_PWM_MOD value` (R355). -/
def execParamDcoPwmMod (v : Word32) (s : State) : Result := paramWith 3 effectDcoPwmMod v s

/-- `PARAM.DCO_SAW_LEVEL value` (R356). -/
def execParamDcoSawLevel (v : Word32) (s : State) : Result := paramWith 4 effectDcoSawLevel v s

/-- `PARAM.DCO_PULSE_LEVEL value` (R357). -/
def execParamDcoPulseLevel (v : Word32) (s : State) : Result := paramWith 5 effectDcoPulseLevel v s

/-- `PARAM.DCO_SUB_LEVEL value` (R358). -/
def execParamDcoSubLevel (v : Word32) (s : State) : Result := paramWith 6 effectDcoSubLevel v s

/-- `PARAM.DCO_NOISE_LEVEL value` (R359). -/
def execParamDcoNoiseLevel (v : Word32) (s : State) : Result := paramWith 7 effectDcoNoiseLevel v s

/-- `PARAM.DCO_RANGE value` (R360). -/
def execParamDcoRange (v : Word32) (s : State) : Result := paramWith 8 noEffect v s

/-- `PARAM.DCO_PITCH_MOD value` (R361). -/
def execParamDcoPitchMod (v : Word32) (s : State) : Result := paramWith 9 effectDcoPitchMod v s

/-- `PARAM.VCF_CUTOFF value` (R362). -/
def execParamVcfCutoff (v : Word32) (s : State) : Result := paramWith 10 effectVcfCutoff v s

/-- `PARAM.VCF_RESONANCE value` (R363). -/
def execParamVcfResonance (v : Word32) (s : State) : Result := paramWith 11 effectVcfResonance v s

/-- `PARAM.VCF_ENV_MOD value` (R364). -/
def execParamVcfEnvMod (v : Word32) (s : State) : Result := paramWith 12 effectVcfEnvMod v s

/-- `PARAM.VCF_LFO_MOD value` (R365). -/
def execParamVcfLfoMod (v : Word32) (s : State) : Result := paramWith 13 effectVcfLfoMod v s

/-- `PARAM.VCF_KBD_MOD value` (R366). -/
def execParamVcfKbdMod (v : Word32) (s : State) : Result := paramWith 14 effectVcfKbdMod v s

/-- `PARAM.VCF_BEND_MOD value` (R367). -/
def execParamVcfBendMod (v : Word32) (s : State) : Result := paramWith 15 effectVcfBendMod v s

/-- `PARAM.ENV_ATTACK value` (R368). -/
def execParamEnvAttack (v : Word32) (s : State) : Result := paramWith 16 noEffect v s

/-- `PARAM.ENV_DECAY value` (R369). -/
def execParamEnvDecay (v : Word32) (s : State) : Result := paramWith 17 noEffect v s

/-- `PARAM.ENV_SUSTAIN value` (R370). -/
def execParamEnvSustain (v : Word32) (s : State) : Result := paramWith 18 noEffect v s

/-- `PARAM.ENV_RELEASE value` (R371). -/
def execParamEnvRelease (v : Word32) (s : State) : Result := paramWith 19 noEffect v s

/-- `PARAM.LFO_TRIG_MODE value` (R372). -/
def execParamLfoTrigMode (v : Word32) (s : State) : Result := paramWith 20 effectLfoTrigMode v s

/-- `PARAM.LFO_RATE value` (R373). -/
def execParamLfoRate (v : Word32) (s : State) : Result := paramWith 21 noEffect v s

/-- `PARAM.LFO_DELAY value` (R374). -/
def execParamLfoDelay (v : Word32) (s : State) : Result := paramWith 22 noEffect v s

/-- `PARAM.HPF_AMOUNT value` (R375). -/
def execParamHpfAmount (v : Word32) (s : State) : Result := paramWith 23 noEffect v s

/-- `PARAM.CHORUS_I value` (R376). -/
def execParamChorusI (v : Word32) (s : State) : Result := paramWith 24 noEffect v s

/-- `PARAM.CHORUS_II value` (R377). -/
def execParamChorusII (v : Word32) (s : State) : Result := paramWith 25 noEffect v s

/-! ## Reading back, volume and octave -/

/-- `GETP index` (R380). -/
def execGetp (index : Nat) (s : State) : Result :=
  withInstance opGetp s fun s =>
    if h : index < 26 then s.respond opGetp statusOk 0 (f32Encode s.eng.params[index])
    else s.respond opGetp statusBadidx 0 0

/-- `SETVOL value` (R381). -/
def execSetvol (v : Word32) (s : State) : Result :=
  withInstance opSetvol s fun s => withNum opSetvol v 0 1 s fun x =>
    (s.setEng { s.eng with volume := x }).ok opSetvol

/-- `GETVOL` (R383). -/
def execGetvol (s : State) : Result :=
  withInstance opGetvol s fun s => s.respond opGetvol statusOk 0 (f32Encode s.eng.volume)

/-- `SETOCT octaves` (R382). -/
def execSetoct (octaves : Int) (s : State) : Result :=
  withInstance opSetoct s fun s =>
    (s.setEng { s.eng with octave := octaveSetting s.cfg octaves }).ok opSetoct

/-- `GETOCT`: the setting as a 32-bit two's-complement integer (R384). -/
def execGetoct (s : State) : Result :=
  withInstance opGetoct s fun s => s.respond opGetoct statusOk 0 (BitVec.ofInt 32 s.eng.octave)

end Sys2Proof.Machine
end

