-- ==== Sys2Proof/Machine/Dispatch.lean ====
section
/-! DEFINITION. One arm per command, each a direct call of its meaning. -/

namespace Sys2Proof.Machine

def exec (i : Instr) (s : State) : Host.Outcome State Fault Refusal :=
  match i with
  | .create => Sys2Proof.Machine.execCreate s
  | .destroy => Sys2Proof.Machine.execDestroy s
  | .getvc => Sys2Proof.Machine.execGetvc s
  | .noteon note velocity => Sys2Proof.Machine.execNoteon note velocity s
  | .noteoff note => Sys2Proof.Machine.execNoteoff note s
  | .cc number value => Sys2Proof.Machine.execCc number value s
  | .bend value => Sys2Proof.Machine.execBend value s
  | .paramVcaDepth v => Sys2Proof.Machine.execParamVcaDepth v s
  | .paramVcaType v => Sys2Proof.Machine.execParamVcaType v s
  | .paramDcoPwmDepth v => Sys2Proof.Machine.execParamDcoPwmDepth v s
  | .paramDcoPwmMod v => Sys2Proof.Machine.execParamDcoPwmMod v s
  | .paramDcoSawLevel v => Sys2Proof.Machine.execParamDcoSawLevel v s
  | .paramDcoPulseLevel v => Sys2Proof.Machine.execParamDcoPulseLevel v s
  | .paramDcoSubLevel v => Sys2Proof.Machine.execParamDcoSubLevel v s
  | .paramDcoNoiseLevel v => Sys2Proof.Machine.execParamDcoNoiseLevel v s
  | .paramDcoRange v => Sys2Proof.Machine.execParamDcoRange v s
  | .paramDcoPitchMod v => Sys2Proof.Machine.execParamDcoPitchMod v s
  | .paramVcfCutoff v => Sys2Proof.Machine.execParamVcfCutoff v s
  | .paramVcfResonance v => Sys2Proof.Machine.execParamVcfResonance v s
  | .paramVcfEnvMod v => Sys2Proof.Machine.execParamVcfEnvMod v s
  | .paramVcfLfoMod v => Sys2Proof.Machine.execParamVcfLfoMod v s
  | .paramVcfKbdMod v => Sys2Proof.Machine.execParamVcfKbdMod v s
  | .paramVcfBendMod v => Sys2Proof.Machine.execParamVcfBendMod v s
  | .paramEnvAttack v => Sys2Proof.Machine.execParamEnvAttack v s
  | .paramEnvDecay v => Sys2Proof.Machine.execParamEnvDecay v s
  | .paramEnvSustain v => Sys2Proof.Machine.execParamEnvSustain v s
  | .paramEnvRelease v => Sys2Proof.Machine.execParamEnvRelease v s
  | .paramLfoTrigMode v => Sys2Proof.Machine.execParamLfoTrigMode v s
  | .paramLfoRate v => Sys2Proof.Machine.execParamLfoRate v s
  | .paramLfoDelay v => Sys2Proof.Machine.execParamLfoDelay v s
  | .paramHpfAmount v => Sys2Proof.Machine.execParamHpfAmount v s
  | .paramChorusI v => Sys2Proof.Machine.execParamChorusI v s
  | .paramChorusII v => Sys2Proof.Machine.execParamChorusII v s
  | .getp index => Sys2Proof.Machine.execGetp index s
  | .setvol v => Sys2Proof.Machine.execSetvol v s
  | .getvol => Sys2Proof.Machine.execGetvol s
  | .setoct octaves => Sys2Proof.Machine.execSetoct octaves s
  | .getoct => Sys2Proof.Machine.execGetoct s
  | .render frames => Sys2Proof.Machine.execRender frames s

end Sys2Proof.Machine
end

