-- ==== Sys2Proof/Machine/Step.lean ====
section
/-! DEFINITION. One step of the machine (R12, R24, R66, R110): take the next command word from the command port,
decode it, execute it. -/

namespace Sys2Proof.Machine

/-- What the engine does with a decoded command word (R110). -/
def runDecoded (d : Decoded) (s : State) : Result :=
  match d with
  | .instr i => exec i s
  | .reservedOp op => rejectReserved op s
  | .illegalIndex _ => rejectIndex s

/-- One step. With no word on the command port the engine waits and nothing changes: it never acts without a
command (R12). -/
def step (s : State) : Host.Outcome State Fault Refusal :=
  match s.takeCommand with
  | none => .next s
  | some (w, s') => runDecoded (decode w) s'

/-- The state with the table's word put first on the command port, where the next step takes it. -/
def State.withFetchWord (s : State) (nbits w : Nat) : State :=
  { s with cmdPort := BitVec.ofNat 64 (w % 2 ^ nbits) :: s.cmdPort }

end Sys2Proof.Machine
end

