-- ==== Sys2Proof/Safety.lean ====
section
/-! DEFINITION. The terms the claims use: which configurations the rules admit, the invariants the rules state
about an instance, sequences of commands, and the renderer read frame by frame (R67). -/

namespace Sys2Proof.Machine

/-! ## Admissible configurations -/

/-- A breakpoint list has the form of R160: from 0 to 1, strictly rising. -/
def tableShape (t : Breakpoints) : Prop :=
  2 ≤ t.length ∧ t.head?.map Prod.fst = some 0 ∧ t.getLast?.map Prod.fst = some 1 ∧
    t.Pairwise fun a b => a.1 < b.1

/-- A curve table given by breakpoints has the form of R160; a closed form needs none (R161). -/
def curveShaped : CurveTable → Prop
  | .points bs => tableShape bs
  | .closed _ => True

/-- The table as a function on [0, 1] has the property at each of its values (R162). -/
def tableValues (c : Config) (t : CurveTable) (P : NUM → Prop) : Prop := ∀ u, 0 ≤ u → u ≤ 1 → P (curve c.num t u)

/-- The number is the value of some binary32 pattern (R422 b). -/
def IsBinary32 (q : NUM) : Prop := ∃ v : Word32, f32Decode v = .fin q

/-- The laws of the primitives the rules use, which the real functions have (R9, R325, R301). -/
structure NumericsSound (n : Numerics) : Prop where
  exp2_int : ∀ k : Int, exp2 n (k : NUM) = (2 : NUM) ^ k
  exp2_double : ∀ x, exp2 n (x + 1) = 2 * exp2 n x
  exp2_pos : ∀ x, 0 < exp2 n x
  exp2_mono : ∀ x y, x ≤ y → exp2 n x ≤ exp2 n y
  exp2_lt_one : ∀ x, x < 0 → exp2 n x < 1
  tanh_bound : ∀ x, -1 < tanh n x ∧ tanh n x < 1
  tanh_odd : ∀ x, tanh n (-x) = -tanh n x
  tanh_mono : ∀ x y, x ≤ y → tanh n x ≤ tanh n y
  tanh_zero : tanh n 0 = 0
  sin_near : ∀ x : NUM, |x| ≤ 8 → |((sin n x : NUM) : ℝ) - Real.sin x| ≤ 1/1000

/-! ## What the rules ask of every kernel (U6)

The rules of a kernel are read in exact arithmetic, R9 putting no bound on the error of a NUM that rounds; so they are
asked of `Config.exact`. -/

/-- A state a unit can come to from its reset state, when one sample or event leads from a state to each of its
`next` states. -/
abbrev Reachable {σ : Type} (next : σ → σ → Prop) (s0 s : σ) : Prop := Relation.ReflTransGen next s0 s

/-- The state of a unit after the first `n` inputs of a sequence. -/
def stateAfter {σ α β : Type} (f : σ → α → σ × β) (s : σ) (x : Nat → α) : Nat → σ
  | 0 => s
  | n + 1 => (f (stateAfter f s x n) (x n)).1

/-- The output of a unit at input `n` of a sequence. -/
def outputAt {σ α β : Type} (f : σ → α → σ × β) (s : σ) (x : Nat → α) (n : Nat) : β :=
  (f (stateAfter f s x n) (x n)).2

/-- A sequence of samples comes as near to a value as one likes and stays there. -/
def EventuallyNear (x : NUM) (ys : Nat → NUM) : Prop := ∀ e : NUM, 0 < e → ∃ n0, ∀ n, n0 ≤ n → |ys n - x| ≤ e

/-- A pure tone: `k` is the cosine of the angle it turns by in one sample, so a larger `k` is a lower frequency. -/
def IsTone (k : NUM) (x : Nat → NUM) : Prop := ∀ n, x (n + 2) = 2 * k * x (n + 1) - x n

/-- The square of a tone's amplitude, times the square of the sine of its angle: the same at every sample. -/
def toneEnergy (k : NUM) (x : Nat → NUM) (n : Nat) : NUM := x n ^ 2 - 2 * k * x n * x (n + 1) + x (n + 1) ^ 2

/-- The unit answers every tone `k` in the limit with `g` times its energy. -/
def HasGain (k : NUM) (g : ℝ) (run : (Nat → NUM) → Nat → NUM) : Prop :=
  ∀ x, IsTone k x → ∀ e : ℝ, 0 < e →
    ∃ n0, ∀ n, n0 ≤ n → |((toneEnergy k (run x) n : NUM) : ℝ) - g * (toneEnergy k x 0 : NUM)| ≤ e

/-- The input at half the sample rate, the highest frequency there is. -/
def alternating (x : NUM) (n : Nat) : NUM := (-1) ^ n * x

/-- The unit answers the highest frequency in the limit with `g` times its energy. -/
def HasTopGain (g : ℝ) (run : (Nat → NUM) → Nat → NUM) : Prop :=
  ∀ e : ℝ, 0 < e → ∃ n0, ∀ n, n0 ≤ n → |((run (alternating 1) n ^ 2 : NUM) : ℝ) - g| ≤ e

/-- An envelope configuration the tables and R186 can give (R162, R185). -/
def EnvAdmissible (cfg : EnvCfg) : Prop :=
  0 < cfg.attackS ∧ 0 < cfg.decayS ∧ 0 < cfg.releaseS ∧ 0 ≤ cfg.sustain ∧ cfg.sustain ≤ 1

/-- One event of an envelope: a note-on, a note-off, or a sample under an admissible configuration. -/
def EnvNext (c : Config) (e e' : EnvState) : Prop :=
  e' = envNoteOn c e ∨ e' = envNoteOff e ∨ ∃ cfg : EnvCfg, EnvAdmissible cfg ∧ e' = envAdvance c cfg e

/-- R190 K2: the stage after a sample. -/
def EnvStage.Follows (s t : EnvStage) : Prop :=
  t = s ∨ (s = .attack ∧ t = .decay) ∨ (s = .decay ∧ t = .sustain) ∨ (s = .release ∧ t = .idle)

/-- An envelope advanced under a configuration that may change from sample to sample (R185). -/
def envCourse (c : Config) (e : EnvState) (cfg : Nat → EnvCfg) : Nat → EnvState :=
  stateAfter (fun e cfg => (envAdvance c cfg e, ())) e cfg

/-- R190 K2 to K7, of the envelopes that can arise; K1 holds of the type of `envAdvance`. "Idle is reached after
finitely many advances whatever the configuration" is asked under every course of the configuration whose release
times have a bound (`k5_ends`); K7 under every course whose attack time stays at 0.001 s (`k7`). DESIGN CHOICE: notes/assumptions/21.md. -/
structure EnvKernelMeetsRules (c : Config) : Prop where
  k2 : ∀ cfg e, EnvStage.Follows e.stage (envAdvance c cfg e).stage
  k3 : ∀ e, Reachable (EnvNext c) (envShutdown c) e → 0 ≤ e.level ∧ e.level ≤ 1 ∧ (e.stage = .idle → e.level = 0)
  k4 : ∀ e cfg, Reachable (EnvNext c) (envShutdown c) e → EnvAdmissible cfg → e.stage = .attack →
    e.level ≤ (envAdvance c cfg e).level
  k5_falls : ∀ e cfg, Reachable (EnvNext c) (envShutdown c) e → EnvAdmissible cfg → e.stage = .release →
    (envAdvance c cfg e).level ≤ e.level
  k5_ends : ∀ e (cfg : Nat → EnvCfg) (most : NUM), Reachable (EnvNext c) (envShutdown c) e →
    (∀ n, EnvAdmissible (cfg n) ∧ (cfg n).releaseS ≤ most) → e.stage = .release →
    ∃ n : Nat, (envCourse c e cfg n).stage = .idle
  k6 : ∀ cfg e, (envAdvance c cfg e).stage = .sustain → (envAdvance c cfg e).level = cfg.sustain
  k7 : ∀ e (cfg : Nat → EnvCfg), Reachable (EnvNext c) (envShutdown c) e →
    (∀ n, EnvAdmissible (cfg n) ∧ (cfg n).attackS = 1/1000) → e.stage = .attack →
    ∃ n : Nat, n ≤ 45 ∧ (envCourse c e cfg n).stage ≠ .attack

/-- One sample of an oscillator, at any frequency, PWM-mod value and draw. -/
def OscNext (c : Config) (o o' : OscState) : Prop :=
  ∃ f pwm draw : NUM, 0 ≤ f ∧ (-1 ≤ draw ∧ draw ≤ 1) ∧ o' = oscAdvance c o f pwm draw

/-- An oscillator from its reset state after `n` samples at one frequency and one PWM-mod value, with a course of
draws: its waveforms in the last of them. -/
def oscCourse (c : Config) (o : OscState) (f pwm : NUM) (draw : Nat → NUM) (n : Nat) : OscWaves :=
  outputAt (fun o d => (oscAdvance c o f pwm d, oscWaves c (oscAdvance c o f pwm d) pwm d)) (oscReset c o) draw n

/-- The samples repeat in the end after every number of them that is a whole number of cycles at `f`. -/
def Repeats (f : NUM) (w : Nat → NUM) : Prop :=
  ∀ n m : Nat, n * f = m * Config.fs → ∃ i0 : Nat, ∀ i, i0 ≤ i → w (i + n) = w i

/-- The samples do not repeat, however late, after a number of them that is a hundredth of a cycle at `f` or more away
from a whole number of cycles. What repeats after less than that would, after some multiple of it, do so here. -/
def RepeatsNoSooner (f : NUM) (w : Nat → NUM) : Prop :=
  ∀ n : Nat, 1/100 ≤ Int.fract (n * f / Config.fs) → Int.fract (n * f / Config.fs) ≤ 99/100 →
    ∀ i0 : Nat, ∃ i, i0 ≤ i ∧ w (i + n) ≠ w i

/-- The waveforms of an oscillator at one frequency and one PWM-mod value, sample by sample from a state. -/
def oscWave (c : Config) (o : OscState) (f pwm draw : NUM) (j : Nat) : OscWaves :=
  oscWaves c ((fun o => oscAdvance c o f pwm draw)^[j] o) pwm draw

/-- R220 K2 to K5, of the states that can arise; K1 and K6 hold of the form of `oscSample`, and so does that the pulse
sees nothing of the modulation but `f` and `pwm` and that only the noise sees a draw. A waveform has a frequency when
its samples repeat after whole cycles (`k2_repeats`) and, below half the sample rate, no sooner (`k2_frequency`); a
pulse may instead be constant at some PWM-mod values, never at all those of [0, 1], the range of the reference
PWM_SOURCE (`k2_pulse`). From the sample rate up repetition is not asked of the sub-octave: R221's own, which flips at
most once per sample, does not meet it there. That the pulse depends on `pwm` and the noise on the draws is `k3` and
`k4`: some course of one, in [0, 1], and of the other makes a difference. DESIGN CHOICE: notes/assumptions/21.md. -/
structure OscKernelMeetsRules (c : Config) : Prop where
  k2_repeats : ∀ o o' (f pwm draw : NUM), Reachable (OscNext c) (oscReset c o) o' → 0 ≤ f →
    Repeats f (fun j => (oscWave c o' f pwm draw j).saw) ∧ Repeats f (fun j => (oscWave c o' f pwm draw j).pulse) ∧
      (f < Config.fs → Repeats (f / 2) (fun j => (oscWave c o' f pwm draw j).sub))
  k2_frequency : ∀ o o' (f pwm draw : NUM), Reachable (OscNext c) (oscReset c o) o' → 0 < f → f < Config.fs / 2 →
    RepeatsNoSooner f (fun j => (oscWave c o' f pwm draw j).saw) ∧
      RepeatsNoSooner (f / 2) (fun j => (oscWave c o' f pwm draw j).sub) ∧
      (RepeatsNoSooner f (fun j => (oscWave c o' f pwm draw j).pulse) ∨
        ∃ (i0 : Nat) (v : NUM), ∀ i, i0 ≤ i → (oscWave c o' f pwm draw i).pulse = v)
  k2_pulse : ∀ o (f : NUM), 0 < f → f < Config.fs / 2 → ∃ pwm, (0 ≤ pwm ∧ pwm ≤ 1) ∧
    ∀ o' (draw : NUM), Reachable (OscNext c) (oscReset c o) o' →
      RepeatsNoSooner f (fun j => (oscWave c o' f pwm draw j).pulse)
  k3 : ∀ o, ∃ (f pwm pwm' : NUM) (n : Nat), (0 ≤ f ∧ f < Config.fs) ∧ (0 ≤ pwm ∧ pwm ≤ 1) ∧ (0 ≤ pwm' ∧ pwm' ≤ 1) ∧
    (oscCourse c o f pwm (fun _ => 0) n).pulse ≠ (oscCourse c o f pwm' (fun _ => 0) n).pulse
  k4 : ∀ o (f pwm : NUM), 0 ≤ f → ∃ (d d' : Nat → NUM) (n : Nat),
    (∀ i, -1 ≤ d i ∧ d i ≤ 1) ∧ (∀ i, -1 ≤ d' i ∧ d' i ≤ 1) ∧
    (oscCourse c o f pwm d n).noise ≠ (oscCourse c o f pwm d' n).noise
  k5 : ∀ o o' (f pwm draw : NUM), Reachable (OscNext c) (oscReset c o) o' → 0 ≤ f → -1 ≤ draw → draw ≤ 1 →
    let w := oscWaves c (oscAdvance c o' f pwm draw) pwm draw
    |w.saw| ≤ 1 ∧ |w.pulse| ≤ 1 ∧ |w.sub| ≤ 1 ∧ |w.noise| ≤ 1

/-- One sample of a voice filter, at any cutoff above 0 and any resonance of [0, 1]. -/
def VcfNext (c : Config) (s s' : VcfState) : Prop :=
  ∃ x fc r : NUM, 0 < fc ∧ 0 ≤ r ∧ r ≤ 1 ∧ s' = vcfAdvance c s x fc r

/-- The voice filter without resonance at one constant cutoff. -/
def vcfRun (c : Config) (fc : NUM) (s : VcfState) : (Nat → NUM) → Nat → NUM := outputAt (fun s x => vcfSample c s x fc 0) s

/-- The cosine of the angle a tone of `f` Hz turns by in one sample. -/
noncomputable def toneCos (f : NUM) : ℝ := Real.cos (2 * Real.pi * (f : ℝ) / ((Config.fs : NUM) : ℝ))

/-- R248 K2 and K4; K1 and K3 hold of the type of `vcfSample`. K2 is asked of every state that can arise, at a cutoff
held constant from there on. "The response falls above `fc`" is read of tones (`k2_falls`): above `fc` a higher tone
comes out with less gain, and half the sample rate, the highest there is, smaller than it went in (`k2_stop`). A gain
is one for all amplitudes (`HasGain`), so a kernel that saturates without resonance is not admissible. DESIGN CHOICE: notes/assumptions/21.md. -/
structure VcfKernelMeetsRules (c : Config) : Prop where
  k2_pass : ∀ s (fc x : NUM), Reachable (VcfNext c) (vcfReset c) s → 0 < fc → EventuallyNear x (vcfRun c fc s fun _ => x)
  k2_falls : ∀ fc : NUM, 0 < fc → fc < Config.fs / 2 → ∃ g : NUM → ℝ,
    (∀ s, Reachable (VcfNext c) (vcfReset c) s →
      ∀ k : NUM, -1 < k → (k : ℝ) < toneCos fc → HasGain k (g k) (vcfRun c fc s)) ∧
    ∀ k k' : NUM, -1 < k' → k' < k → (k : ℝ) < toneCos fc → g k' < g k
  k2_stop : ∀ s (fc x : NUM), Reachable (VcfNext c) (vcfReset c) s → 0 < fc → fc < Config.fs / 2 → x ≠ 0 →
    ∃ g : NUM, g < 1 ∧ ∃ n0 : Nat, ∀ n : Nat, n0 ≤ n → |vcfRun c fc s (alternating x) n| ≤ g * |x|
  k4 : ∀ inputs : Nat → NUM × NUM, (∀ n, 0 < (inputs n).1 ∧ 0 ≤ (inputs n).2 ∧ (inputs n).2 ≤ 1) →
    ∀ n, outputAt (fun s i => vcfSample c s 0 i.1 i.2) (vcfReset c) inputs n = 0

/-- The parameter file with HPF_AMOUNT set. -/
def withHpfAmount (p : Vector NUM 26) (u : NUM) : Vector NUM 26 := p.set 23 u

/-- One sample of the high-pass, at any setting of P[23]. -/
def HpfNext (c : Config) (h h' : HpfState) : Prop :=
  ∃ (p : Vector NUM 26) (x : NUM), 0 ≤ p[23] ∧ p[23] ≤ 1 ∧ h' = hpfAdvance c p h x

/-- The high-pass at one setting of P[23]. -/
def hpfRun (c : Config) (p : Vector NUM 26) (u : NUM) (h : HpfState) : (Nat → NUM) → Nat → NUM :=
  outputAt (hpfSample c (withHpfAmount p u)) h

/-- R294 K2 and K4, from the states that can arise; K1 and K3 hold of the type of `hpfSample`. The passband is the top
of the frequency range: it comes through (`0 < top`), no tone with more than twice its energy. The corner is the
frequency above which a tone has at least half the energy of the passband and below which at most half; it is given by
its cosine, so it rises as `corner` falls, never the other way with P[23] and by some amount from P[23] = 0 to 1.
`k2_decays` at input 0 is the second part of K4. DESIGN CHOICE: notes/assumptions/21.md. -/
structure HpfKernelMeetsRules (c : Config) : Prop where
  k2_decays : ∀ (p : Vector NUM 26) h (u x : NUM), 0 ≤ u → u ≤ 1 → Reachable (HpfNext c) (hpfReset c) h →
    EventuallyNear 0 (hpfRun c p u h fun _ => x)
  k2_corner : ∃ corner : NUM → ℝ,
    (∀ u u', 0 ≤ u → u ≤ u' → u' ≤ 1 → -1 < corner u' ∧ corner u' ≤ corner u ∧ corner u < 1) ∧ corner 1 < corner 0 ∧
    ∀ (p : Vector NUM 26) (u : NUM), 0 ≤ u → u ≤ 1 → ∃ (top : ℝ) (g : NUM → ℝ), 0 < top ∧
      (∀ h, Reachable (HpfNext c) (hpfReset c) h →
        HasTopGain top (hpfRun c p u h) ∧ ∀ k : NUM, -1 < k → k < 1 → HasGain k (g k) (hpfRun c p u h)) ∧
      ∀ k : NUM, -1 < k → k < 1 →
        g k ≤ 2 * top ∧ ((k : ℝ) < corner u → top / 2 ≤ g k) ∧ (corner u < k → g k ≤ top / 2)
  k4 : ∀ (p : Vector NUM 26) (u : Nat → NUM), (∀ n, 0 ≤ u n ∧ u n ≤ 1) →
    ∀ n, outputAt (fun h v => hpfSample c (withHpfAmount p v) h 0) (hpfReset c) u n = 0

/-- R300 K1 to K3. A closed form is `tanh(3x)`-shaped when it stays within 1/100 of `tanh(3x)`, a bound of the
model's: notes/assumptions/21.md. -/
structure SoftClipMeetsRules (c : Config) : Prop where
  k1 : ∀ x, -1 ≤ softClip c x ∧ softClip c x ≤ 1
  k2_mono : ∀ x y, x ≤ y → softClip c x ≤ softClip c y
  k2_zero : softClip c 0 = 0
  k3_table : ∀ lo hi bs, c.softClip = .sampled lo hi bs →
    lo < hi ∧ tableShape bs ∧ ∀ b ∈ bs, b.2 = tanh c.num (3 * (lo + (hi - lo) * b.1))
  k3_closed : ∀ e, c.softClip = .closed e → ∀ x, |softClip c x - tanh c.num (3 * x)| ≤ 1/100

/-- One sample of the chorus with any input of [-1, 1] and any enables. -/
def ChorusNext (c : Config) (s s' : ChorusState) : Prop :=
  ∃ (x : NUM) (en1 en2 : Bool), |x| ≤ 1 ∧ s' = chorusAdvance c s x en1 en2

/-- The chorus on silence, under enables that may change from frame to frame. -/
def chorusRun (c : Config) (s : ChorusState) : (Nat → Bool × Bool) → Nat → NUM × NUM :=
  outputAt (fun s en => chorusSample c s 0 en.1 en.2) s

/-- R304 K3 to K5, from the states that can arise; K1 and K2 hold of the type of `chorusSample`. Silence from reset and
fading from any state are asked under every course of the enables (K5), and R306 says what the output is with neither
stage enabled. DESIGN CHOICE: notes/assumptions/21.md. -/
structure ChorusKernelMeetsRules (c : Config) : Prop where
  k3 : ∀ s (x : NUM) en1 en2, Reachable (ChorusNext c) (initialChorus c) s → |x| ≤ 1 →
    chorusAdvance c s x en1 en2 ≠ s
  k4 : ∀ s (x : NUM) en1 en2, Reachable (ChorusNext c) (initialChorus c) s → |x| ≤ 1 →
    |(chorusSample c s x en1 en2).2.1| ≤ 1 ∧ |(chorusSample c s x en1 en2).2.2| ≤ 1
  bypass : ∀ s (x : NUM), (chorusSample c s x false false).2 = (x, x)
  k5_silent : ∀ en n, chorusRun c (initialChorus c) en n = (0, 0)
  k5_fades : ∀ s en, Reachable (ChorusNext c) (initialChorus c) s →
    EventuallyNear 0 (fun n => (chorusRun c s en n).1) ∧ EventuallyNear 0 (fun n => (chorusRun c s en n).2)

/-- P[21], P[22] and a draw are in their domains. -/
def LfoInputs (p : Vector NUM 26) (d : NUM) : Prop :=
  (0 ≤ p[21] ∧ p[21] ≤ 1) ∧ (0 ≤ p[22] ∧ p[22] ≤ 1) ∧ -1 ≤ d ∧ d ≤ 1

/-- One event of the LFO: a shutdown, a note-on, a note-off, or a sample with any draw of [-1, 1]. -/
def LfoNext (c : Config) (l l' : LfoState) : Prop :=
  l' = lfoShutdown c ∨ l' = lfoNoteOn l ∨ l' = lfoNoteOff l ∨
    ∃ (p : Vector NUM 26) (d : NUM), LfoInputs p d ∧ l' = lfoAdvance c p d l

/-- A full-scale waveform over the phase: for a thousandth of the cycle it is within 1/100 of each end (R270), and it
repeats itself after a whole cycle and no sooner, so its frequency is that of the phase: against itself turned by `s`
it differs all through a part of the cycle as long as half of `s` or of `1 - s`. -/
structure FullWave (w : NUM → NUM) : Prop where
  ends : ∀ top : NUM, top = 1 ∨ top = -1 →
    ∃ q, 0 ≤ q ∧ q + 1/1000 ≤ 1 ∧ ∀ x, q ≤ x → x ≤ q + 1/1000 → x < 1 → |w x - top| ≤ 1/100
  cycle : ∀ s, 1/100 ≤ s → s ≤ 99/100 →
    ∃ q, 0 ≤ q ∧ q < 1 ∧ ∀ x, q ≤ x → x ≤ q + min s (1 - s) / 2 → w (Int.fract (x + s)) ≠ w (Int.fract x)

/-- The LFO after the first `n` samples at one setting, under a course of draws. -/
def lfoCourse (c : Config) (p : Vector NUM 26) (l : LfoState) (d : Nat → NUM) : Nat → LfoState :=
  stateAfter (fun l x => (lfoAdvance c p x l, ())) l d

/-- A cycle of the LFO begins with the next sample. -/
def LfoBegins (c : Config) (p : Vector NUM 26) (l : LfoState) : Prop := 1 ≤ l.phase + lfoRateHz c p / Config.fs

/-- R269 K1 to K5, of the states that can arise. K2 is said in parts: silence for the delay (`k2_delay`); the part of
the ramp-in gone by after `n` samples (`k2_ramp`), and the gain at it, which grows in every tenth of the ramp-in and by
no more than a half in any (`k2_gain`); that the output is the waveform
times that gain (`k2_amplitude`); that the phase moves at the frequency of the LFO (`k2_phase`), and that from a
note-on to the next note-off a Triangle, Sine or Square waveform is full-scale, of one cycle, and a function of the
settings and the phase alone, so nothing but the gain ramps it (`k2_wave`); that Random, from the second draw on, goes
in every cycle from the draw of the cycle before to the draw of this one, and is there at its end (`k2_random`); and that Random and Noise,
under draws that stay at one value, are within 1/100 of it from two cycles on (`k2_drawn`). DESIGN CHOICE: notes/assumptions/21.md. -/
structure LfoKernelMeetsRules (c : Config) : Prop where
  k1 : ∀ p d l, l.stage = .off → lfoAdvance c p d l = { l with out := 0 }
  k2_delay : ∀ p d l (n : Nat), Reachable (LfoNext c) (lfoShutdown c) l → (n : NUM) < lfoDelaySamples c p →
    ((lfoAdvance c p d)^[n + 1] (lfoNoteOn l)).out = 0
  k2_ramp : ∀ p d l (n : Nat), 0 < lfoAttackSamples c p →
    ((lfoAdvance c p d)^[n] (lfoNoteOn l)).ramp = min 1 (((n - ⌈lfoDelaySamples c p⌉₊ : Nat) : NUM) / lfoAttackSamples c p)
  k2_gain : lfoGain c 0 = 0 ∧ lfoGain c 1 = 1 ∧ ∀ u v : NUM, 0 ≤ u → u ≤ v → v ≤ 1 →
    lfoGain c u ≤ lfoGain c v ∧ (u + 1/10 ≤ v → lfoGain c u < lfoGain c v) ∧
      (v ≤ u + 1/10 → lfoGain c v ≤ lfoGain c u + 1/2)
  k2_amplitude : ∀ p d l, l.stage ≠ .off →
    (lfoAdvance c p d l).out = (lfoWaveform c p d l).2 * lfoGain c (lfoAdvance c p d l).ramp
  k2_phase : ∀ p d l, l.stage ≠ .off → (lfoAdvance c p d l).phase = Int.fract (l.phase + lfoRateHz c p / Config.fs)
  k2_wave : c.lfoWave = .triangle ∨ c.lfoWave = .sine ∨ c.lfoWave = .square →
    ∃ w : Vector NUM 26 → NUM → NUM, ∀ p,
      (LfoInputs p 0 → FullWave (w p)) ∧
      ∀ d l q, Reachable (LfoNext c) (lfoShutdown c) l → l.gate = true → LfoInputs p d → 0 ≤ q → q < 1 →
        (lfoWaveform c p d { l with phase := q }).2 = w p (Int.fract (q + lfoRateHz c p / Config.fs))
  k2_random : c.lfoWave = .random → ∀ p l (d : Nat → NUM) (i j k : Nat),
    Reachable (LfoNext c) (lfoShutdown c) l → l.gate = true → (∀ m, LfoInputs p (d m)) → i < j → j ≤ k →
    LfoBegins c p (lfoCourse c p l d i) → LfoBegins c p (lfoCourse c p l d j) →
    (∀ m, i < m → m ≤ k → LfoBegins c p (lfoCourse c p l d m) → m = j) →
    let w := (lfoWaveform c p (d k) (lfoCourse c p l d k)).2
    (min (d i) (d j) - 1/100 ≤ w ∧ w ≤ max (d i) (d j) + 1/100) ∧
      (LfoBegins c p (lfoCourse c p l d (k + 1)) → |w - d j| ≤ 1/100)
  k2_drawn : c.lfoWave = .random ∨ c.lfoWave = .noise → ∀ p l (d : NUM) (n : Nat),
    Reachable (LfoNext c) (lfoShutdown c) l → l.gate = true → LfoInputs p d →
    2 * Config.fs ≤ n * lfoRateHz c p →
    |(lfoWaveform c p d ((lfoAdvance c p d)^[n] l)).2 - d| ≤ 1/100
  k3 : ∀ l, Reachable (LfoNext c) (lfoShutdown c) l → |l.out| ≤ 1
  k4 : ∀ p d d' l, c.lfoWave = .triangle ∨ c.lfoWave = .sine ∨ c.lfoWave = .square →
    lfoAdvance c p d l = lfoAdvance c p d' l

/-! ## Scenario A -/

/-- Scenario A holds of the defaults: a note 60 at full velocity on a fresh instance makes voice 0 active, and
some frame within the first 128 is not silent, for some draws (R342, R422 c). -/
def ScenarioA (c : Config) : Prop :=
  ∃ (draws : Draws) (n : Nat), n ≤ 128 ∧
    let e := noteOnEngine c (initialEngine c) (transposedNote c.octaveDefault 60) 1
    (e.voices[0]).active = true ∧
      ∃ w ∈ pcmFrames c e.volume (renderBlock c draws 0 n e).out, w ≠ 0

end Sys2Proof.Machine

namespace Sys2Proof

open Machine

/-- The same block with exact arithmetic (R9). -/
def Config.exact (c : Config) : Config := { c with num := { c.num with carrier := .rational } }

/-- The constraints the rules put on the open parameters, read in the arithmetic of the configuration. The
constraints of a kernel or of NUM are asked of an instance other than the reference one; that the reference instances
meet them is the spec's claim, stated in the obligations (notes/assumptions/21.md). -/
structure Config.MeetsRules (c : Config) : Prop where
  /-- R9. -/
  num_sound : c.num ≠ .reference → NumericsSound c.num
  /-- R422 a, R21: the defaults lie in their domains. -/
  default_domain : ∀ i : Fin 26, 0 ≤ c.paramDefault[i] ∧ c.paramDefault[i] ≤ paramHi i
  /-- R422 b. -/
  default_binary32 : ∀ i : Fin 26, IsBinary32 c.paramDefault[i]
  /-- R422 c: the default attack is the lowest setting. -/
  default_attack : c.paramDefault[16] = 0
  /-- R422 c: the amplifier is not muted. -/
  default_gain : 0 < curve c.num c.ctVca c.paramDefault[0]
  /-- R422 c: some waveform has a level. -/
  default_level : 0 < c.paramDefault[4] ∨ 0 < c.paramDefault[5] ∨ 0 < c.paramDefault[6] ∨ 0 < c.paramDefault[7]
  /-- R422 c: Scenario A holds. -/
  scenario_a : ScenarioA c
  /-- R422 a, c. -/
  volume_domain : 0 < c.volumeDefault ∧ c.volumeDefault ≤ 1
  /-- R422 b. -/
  volume_binary32 : IsBinary32 c.volumeDefault
  /-- R382. -/
  oct_range : c.octMin ≤ 0 ∧ 0 ≤ c.octMax
  /-- R422 a. -/
  octave_domain : c.octMin ≤ c.octaveDefault ∧ c.octaveDefault ≤ c.octMax
  /-- R336. -/
  masterGain_nonneg : 0 ≤ c.masterGain
  /-- R170. -/
  smoothCoef_range : 0 < c.smoothCoef ∧ c.smoothCoef ≤ 1
  /-- R160, R162, R163. -/
  attack_table : curveShaped c.ctAttack ∧ tableValues c c.ctAttack (0 < ·) ∧
    curve c.num c.ctAttack 0 = 1/1000 ∧ curve c.num c.ctAttack 1 = 13/4
  /-- R160, R162, R164. -/
  decay_table : curveShaped c.ctDecay ∧ tableValues c c.ctDecay (0 < ·) ∧
    curve c.num c.ctDecay 0 = 1/500 ∧ curve c.num c.ctDecay 1 = 99/5
  /-- R160, R162. -/
  sustain_table : curveShaped c.ctSustain ∧ tableValues c c.ctSustain fun y => 0 ≤ y ∧ y ≤ 1
  /-- R160, R162: rates below the sample rate. -/
  lfoRate_table : curveShaped c.ctLfoRate ∧ tableValues c c.ctLfoRate fun y => 0 ≤ y ∧ y < Config.fs
  /-- R160, R162. -/
  lfoDelay_table : curveShaped c.ctLfoDelay ∧ tableValues c c.ctLfoDelay (0 ≤ ·)
  /-- R160, R162. -/
  lfoAttack_table : curveShaped c.ctLfoAttack ∧ tableValues c c.ctLfoAttack (0 < ·)
  /-- R160, R162. -/
  hpf_table : curveShaped c.ctHpf ∧ tableValues c c.ctHpf (0 ≤ ·)
  /-- R294 K2 and K4 of the reference high-pass: its corner is positive and rises with P[23], and NUM tells the
  corners at 0 and 1 apart. -/
  hpf_corner : c.hpfKernel = .reference → tableValues c c.ctHpf (0 < ·) ∧
    (∀ u u', 0 ≤ u → u < u' → u' ≤ 1 → curve c.num c.ctHpf u < curve c.num c.ctHpf u') ∧
    onePoleCoef c.num (curve c.num c.ctHpf 0) < onePoleCoef c.num (curve c.num c.ctHpf 1)
  /-- R160, R162. -/
  vca_table : curveShaped c.ctVca ∧ tableValues c c.ctVca fun y => 0 ≤ y ∧ y ≤ 1
  /-- R197. -/
  thresholds : 0 ≤ c.envIdleEps ∧ c.envIdleEps ≤ c.envReleasedEps ∧ c.envReleasedEps < 1
  /-- R249: the kernel's clamp is an interval of positive frequencies. -/
  cutoff_range : 0 < c.cutoffMinHz ∧ c.cutoffMinHz ≤ c.cutoffMaxHz
  /-- R249. -/
  resK_nonneg : 0 ≤ c.resK
  /-- R305. -/
  chorus_taps : 0 ≤ c.chDepth ∧ 1 ≤ c.chBase - c.chDepth ∧ c.chBase + c.chDepth ≤ (c.chLen : NUM) - 2
  /-- R190. -/
  env_kernel : c.envKernel ≠ .reference → EnvKernelMeetsRules c
  /-- R220 K2 and K3 of the reference oscillator: the pulse width of R222 moves with the PWM-mod value, and comes to
  between a third and two thirds of a cycle, where the samples of every frequency below half the sample rate fall on
  both sides of it. -/
  osc_width : c.oscKernel = .reference →
    c.pwSpan ≠ 0 ∧ min c.pwCentre (c.pwCentre + c.pwSpan) ≤ 2/3 ∧ 1/3 ≤ max c.pwCentre (c.pwCentre + c.pwSpan)
  /-- R220. -/
  osc_kernel : c.oscKernel ≠ .reference → OscKernelMeetsRules c
  /-- R248. -/
  vcf_kernel : c.vcfKernel ≠ .reference → VcfKernelMeetsRules c
  /-- R269. -/
  lfo_kernel : c.lfoKernel ≠ .reference → LfoKernelMeetsRules c
  /-- R294. -/
  hpf_kernel : c.hpfKernel ≠ .reference → HpfKernelMeetsRules c
  /-- R300. -/
  soft_clip : c.softClip ≠ .reference → SoftClipMeetsRules c
  /-- R304. -/
  chorus_kernel : c.chorusKernel ≠ .reference → ChorusKernelMeetsRules c

/-- An admissible configuration: it meets the rules in exact arithmetic, and its own arithmetic keeps the bend in the
range of R33. -/
structure Config.Valid (c : Config) : Prop where
  rules : c.exact.MeetsRules
  bend_range : ∀ b : Nat, -7 ≤ bendSemitones c.num b ∧ bendSemitones c.num b < 7

end Sys2Proof

namespace Sys2Proof.Machine

/-! ## Invariants of an instance

Each says nothing while there is no instance: what the engine holds then is unspecified (R30). -/

/-- R22 and R380 b: every parameter register holds a binary32 value of its domain. -/
def State.ParamsInDomain (s : State) : Prop :=
  s.instValid = true → ∀ i : Fin 26,
    0 ≤ s.eng.params[i] ∧ s.eng.params[i] ≤ paramHi i ∧ IsBinary32 s.eng.params[i]

/-- R26: the control registers are in their ranges, the volume is a binary32 value (R383). -/
def State.ControlsInRange (s : State) : Prop :=
  s.instValid = true →
    (0 ≤ s.eng.volume ∧ s.eng.volume ≤ 1 ∧ IsBinary32 s.eng.volume) ∧
    (s.cfg.octMin ≤ s.eng.octave ∧ s.eng.octave ≤ s.cfg.octMax) ∧
    (-7 ≤ s.eng.bendSemi ∧ s.eng.bendSemi < 7)

/-- R35 a, d and R197 a for one voice: an active voice holds a note, is tuned to it under the bend in force and
has a live current envelope; an inactive voice holds no note and both its envelopes are shut down. -/
def Voice.Consistent (c : Config) (bendSemi : NUM) (v : Voice) : Prop :=
  if v.active then
    (∃ n, v.note = some n ∧ n ≤ 127 ∧ v.bendMul = bendMulOf c.num bendSemi ∧
      v.freq = c.num.mul (baseFreq c.num n) v.bendMul) ∧ (currentEnv v).stage ≠ .idle
  else v.note = none ∧ v.envA = envShutdown c ∧ v.envG = envShutdown c

/-- R35 a, d and R197 a for the pool. -/
def State.VoicesConsistent (s : State) : Prop :=
  s.instValid = true → ∀ k : Fin 6, (s.eng.voices[k]).Consistent s.cfg s.eng.bendSemi

/-- R421: every fan-out target agrees with its parameter register. -/
def State.TargetsAgree (s : State) : Prop :=
  s.instValid = true →
    (∀ k : Fin 6,
      (s.eng.voices[k]).pwmSm.t = s.eng.params[2] ∧
      (s.eng.voices[k]).pwmSrc = pwmShared s.eng.params ∧
      (s.eng.voices[k]).osc.saw.t = s.eng.params[4] ∧
      (s.eng.voices[k]).osc.pulse.t = s.eng.params[5] ∧
      (s.eng.voices[k]).osc.sub.t = s.eng.params[6] ∧
      (s.eng.voices[k]).osc.noise.t = s.eng.params[7]) ∧
    s.eng.sm.pitchMod.t = s.eng.params[9] ∧
    s.eng.sm.cutoff.t = s.eng.params[10] ∧
    s.eng.sm.res.t = s.eng.params[11] ∧
    s.eng.sm.envMod.t = s.eng.params[12] ∧
    s.eng.sm.lfoMod.t = s.eng.params[13] ∧
    s.eng.sm.kbdMod.t = s.eng.params[14] ∧
    s.eng.sm.bendMod.t = s.eng.params[15]

/-- R274 and R276: an LFO in stage Off rests at phase 0 and output 0, and in Manual mode it is Off. -/
def State.LfoConsistent (s : State) : Prop :=
  s.instValid = true →
    (s.eng.lfo.stage = .off → s.eng.lfo.phase = 0 ∧ s.eng.lfo.out = 0) ∧
    (lfoTrigAuto s.eng.params = false → s.eng.lfo.stage = .off)

/-- A smoother whose value and target are in [0, 1] (R174 b). -/
def Smoother.InUnit (m : Smoother) : Prop := (0 ≤ m.y ∧ m.y ≤ 1) ∧ 0 ≤ m.t ∧ m.t ≤ 1

/-- R190 K3: a level in [0, 1], and 0 in Idle. -/
def EnvState.InRange (e : EnvState) : Prop := 0 ≤ e.level ∧ e.level ≤ 1 ∧ (e.stage = .idle → e.level = 0)

/-- R37. -/
def OscState.InRange (o : OscState) : Prop :=
  o.saw.InUnit ∧ o.pulse.InUnit ∧ o.sub.InUnit ∧ o.noise.InUnit ∧ 0 ≤ o.phase ∧ o.phase < 1

/-- R249: every memory of the reference filter is bounded by the oscillator's bound 4 and RES_K. Another kernel
need only keep finite values finite (R248 K3), which every number of the model is. -/
def VcfState.InRange (c : Config) (s : VcfState) : Prop :=
  c.vcfKernel = .reference →
  |s.y1| ≤ 4 + c.resK ∧ |s.y2| ≤ 4 + c.resK ∧ |s.y3| ≤ 4 + c.resK ∧ |s.y4| ≤ 4 + c.resK

/-- The numbers of a voice record are in the ranges of R34 and of its units. -/
def Voice.InRange (c : Config) (v : Voice) : Prop :=
  (0 ≤ v.vel ∧ v.vel ≤ 1) ∧ v.osc.InRange ∧ v.vcf.InRange c ∧ v.envA.InRange ∧ v.envG.InRange ∧ v.pwmSm.InUnit

/-- R41. -/
def LfoState.InRange (l : LfoState) : Prop :=
  (0 ≤ l.phase ∧ l.phase < 1) ∧ |l.out| ≤ 1 ∧ (0 ≤ l.ramp ∧ l.ramp ≤ 1) ∧ |l.hold| ≤ 1

/-- R295: behind the reference filter, the memory of the reference high-pass is bounded as the filter is. -/
def HpfState.InRange (c : Config) (h : HpfState) : Prop :=
  c.vcfKernel = .reference → c.hpfKernel = .reference → |h.lp| ≤ 4 + c.resK

/-- R42, R304 K4. -/
def ChorusState.InRange (c : Config) (s : ChorusState) : Prop :=
  s.line.length = c.chLen ∧ (∀ x ∈ s.line, |x| ≤ 1) ∧ s.w < c.chLen ∧
    (0 ≤ s.ph0 ∧ s.ph0 < 1) ∧ 0 ≤ s.ph1 ∧ s.ph1 < 1

/-- Every number of the render path is in the range its rule gives: nothing grows without bound (R310). -/
def State.NumbersInRange (s : State) : Prop :=
  s.instValid = true →
    (∀ k : Fin 6, (s.eng.voices[k]).InRange s.cfg) ∧
    (s.eng.sm.pitchMod.InUnit ∧ s.eng.sm.cutoff.InUnit ∧ s.eng.sm.res.InUnit ∧ s.eng.sm.envMod.InUnit ∧
      s.eng.sm.lfoMod.InUnit ∧ s.eng.sm.kbdMod.InUnit ∧ s.eng.sm.bendMod.InUnit) ∧
    s.eng.lfo.InRange ∧ s.eng.hp.InRange s.cfg ∧ s.eng.chorus.InRange s.cfg

/-- The engine without the private state of the noise, the one part of it a draw reaches when no noise is heard
(R220 K4). -/
def Engine.withoutNoiseState (e : Engine) : Engine := e.mapOsc fun o => { o with noiseAux := [] }

/-! ## Sequences of commands -/

/-- The commands executed one after another (R66). -/
def runAll : List Instr → State → Result
  | [], s => .next s
  | i :: is, s =>
    match exec i s with
    | .next s' => runAll is s'
    | .fault f => .fault f
    | .refused r => .refused r

/-! ## The renderer frame by frame (R67) -/

/-- One frame of one slot: an active voice is advanced and added to the mix (R327, R331). -/
def slotFrame (c : Config) (p : Vector NUM 26) (bendSemi : NUM) (draws : Draws) (m : ModFrame)
    (acc : Vector Voice 6 × NUM) (k : Fin 6) : Vector Voice 6 × NUM :=
  if acc.1[k].active then
    let r := voiceFrame c p bendSemi (draws (.voice k)) acc.1[k] m
    (acc.1.set k r.1, c.num.add acc.2 r.2)
  else acc

/-- One frame over all units, in the order LFO, shared smoothers, voices, effects chain (R67). -/
def engineFrame (c : Config) (draws : Draws) (e : Engine) (t : Nat) : Engine × (NUM × NUM) :=
  let l := lfoFrame c e.params draws e.lfo t
  let m := sharedMod c e.sm l.2
  let vs := slots.foldl (slotFrame c e.params e.bendSemi draws m.2) (e.voices, 0)
  let fx := effectsFrame c e.params (e.hp, e.chorus) vs.2
  ({ e with lfo := l.1, sm := m.1, voices := vs.1, hp := fx.1.1, chorus := fx.1.2 }, fx.2)

/-- The deactivation check of every active voice, after the last frame (R332). -/
def endOfBlock (c : Config) (e : Engine) : Engine :=
  e.mapVoices fun v => if v.active then deactivationCheck c v else v

/-- A block rendered frame by frame over all units, from frame number `t` (R67). -/
def renderByFrame (c : Config) (draws : Draws) (t frames : Nat) (e : Engine) : Block :=
  let r := scanBlock (engineFrame c draws) e (List.range' t frames)
  { eng := endOfBlock c r.1, out := r.2 }

end Sys2Proof.Machine
end

