-- ==== Sys2Proof/Certificates/Slice0/Obligations.lean ====
section
/-! DEFINITION. The statements for the provers, from the numbered rules of the spec. -/

open Sys2Proof Sys2Proof.Machine

/-- Decoding the encoded word of any well-formed command gives the command back. (R81, R82, R83, R87, R88, R89)
-/
def Obligations.DecodeOfEncode : Prop :=
  ∀ i : Instr, i.WellFormed → decode (encode i) = .instr i

/-- A decoded command is well-formed and encodes to the word with the ignored fields zeroed. (R81, R82, R83,
R84) -/
def Obligations.EncodeOfDecode : Prop :=
  ∀ (w : Word64) (i : Instr), decode w = .instr i → i.WellFormed ∧ encode i = w &&& readMask i

/-- Bits a command does not read are accepted with any value and change nothing. (R82) -/
def Obligations.IgnoredFieldsHaveNoEffect : Prop :=
  ∀ (w w' : Word64) (i : Instr), decode w = .instr i → w' &&& readMask i = w &&& readMask i →
    decode w' = .instr i ∧
    ∀ (s : State) (rest : List Word64),
      step { s with cmdPort := w' :: rest } = step { s with cmdPort := w :: rest }

/-- The rows of the opcode table select disjoint words, and the other words are the reserved ones. The illegal
index of the last clause is the decoder's, for PARAM alone; GETP with A above 25 is answered by its meaning (log
entry 14, a DESIGN CHOICE). (R83, R84) -/
def Obligations.OpcodeTableSelects : Prop :=
  (∀ w : Word64, (∃ i, decode w = .instr i) ↔ ∃ i : Instr, w &&& tableMask i = tableMatch i) ∧
  (∀ (w : Word64) (i : Instr), decode w = .instr i → w &&& tableMask i = tableMatch i) ∧
  (∀ (w : Word64) (i j : Instr), w &&& tableMask i = tableMatch i → w &&& tableMask j = tableMatch j →
    tableMask i = tableMask j ∧ tableMatch i = tableMatch j) ∧
  (∀ w : Word64, decode w = .reservedOp (fieldOp w) ↔
    fieldOp w ∉ ([0x01, 0x02, 0x03, 0x10, 0x11, 0x12, 0x13, 0x20, 0x21, 0x22, 0x23, 0x24, 0x25, 0x30] :
      List Word8)) ∧
  (∀ w : Word64, decode w = .illegalIndex (fieldA w) ↔ fieldOp w = 0x20 ∧ 25 < (fieldA w).toNat)

/-- Command words of the spec decode to the commands they stand for. (R81, R82, R83, R100, R352, R377) -/
def Obligations.WorkedEncodings : Prop :=
  decode 0x0100000000000000 = .instr .create ∧
  decode 0x103C00003F800000 = .instr (.noteon 60 0x3F800000) ∧
  decode 0x113C000000000000 = .instr (.noteoff 60) ∧
  decode 0x127B000000000000 = .instr (.cc 123 0) ∧
  decode 0x1300200000000000 = .instr (.bend 8192) ∧
  decode 0x13003FFF00000000 = .instr (.bend 16383) ∧
  decode 0x200A00003F000000 = .instr (.paramVcfCutoff 0x3F000000) ∧
  decode 0x2008000040000000 = .instr (.paramDcoRange 0x40000000) ∧
  decode 0x210A000000000000 = .instr (.getp 10) ∧
  decode 0x220000003F000000 = .instr (.setvol 0x3F000000) ∧
  decode 0x2400FFFF00000000 = .instr (.setoct (-1)) ∧
  decode 0x3000008000000000 = .instr (.render 128) ∧
  decode 0x200000003E800000 = .instr (.paramVcaDepth 0x3E800000) ∧
  decode 0x201900003F800000 = .instr (.paramChorusII 0x3F800000)

/-- Bytes are little-endian, a command is taken from eight of them, a frame is L.lo L.hi R.lo R.hi. The byte
order and the left-first frame are taken from general knowledge, as R62 and R94 say of themselves (log entry 13,
PRESUMED). (R62, R64, R94) -/
def Obligations.SerialisedWords : Prop :=
  (∀ (w : Word64) (rest : List Byte), decodeBytes (wordBytes w ++ rest) = some (decode w, rest)) ∧
  (∀ w : Word64, wordBytes w =
    [0, 8, 16, 24, 32, 40, 48, 56].map fun k => w.extractLsb' k 8) ∧
  (∀ l r : Int, frameBytes (frameWord l r) =
    [(BitVec.ofInt 16 l).extractLsb' 0 8, (BitVec.ofInt 16 l).extractLsb' 8 8,
     (BitVec.ofInt 16 r).extractLsb' 0 8, (BitVec.ofInt 16 r).extractLsb' 8 8]) ∧
  (∀ l r : Int, -32768 ≤ l → l ≤ 32767 → -32768 ≤ r → r ≤ 32767 →
    ((frameWord l r).extractLsb' 0 16).toInt = l ∧ ((frameWord l r).extractLsb' 16 16).toInt = r)

/-- A step takes the next word off the command port and runs what it decodes to; with no word it changes
nothing. The last clause, on an empty port, is the model's choice (log entry 8). (R12, R24, R66, R110, R405) -/
def Obligations.StepRunsTheDecodedCommand : Prop :=
  ∀ s : State,
    (∀ (w : Word64) (rest : List Word64), s.cmdPort = w :: rest →
      (∀ i, decode w = .instr i → step s = exec i { s with cmdPort := rest }) ∧
      (∀ op, decode w = .reservedOp op → step s = rejectReserved op { s with cmdPort := rest }) ∧
      (∀ a, decode w = .illegalIndex a → step s = rejectIndex { s with cmdPort := rest })) ∧
    (s.cmdPort = [] → step s = .next s)

/-- Every command word is answered by exactly one response word, with the status R403 fixes. (R403) -/
def Obligations.EveryCommandAnsweredByPriority : Prop :=
  ∀ (s : State) (w : Word64) (rest : List Word64), s.cmdPort = w :: rest →
    ∃ (t : State) (r : Word64), step s = .next t ∧ t.cmdPort = rest ∧ t.rspPort = s.rspPort ++ [r] ∧
      r.extractLsb' 56 8 = fieldOp w ∧
      r.extractLsb' 48 8 =
        if fieldOp w ∉ ([0x01, 0x02, 0x03, 0x10, 0x11, 0x12, 0x13, 0x20, 0x21, 0x22, 0x23, 0x24, 0x25, 0x30] :
            List Word8) then (2 : Word8)
        else if s.instValid = false ∧ fieldOp w ≠ 0x01 then 1
        else if (fieldOp w = 0x20 ∨ fieldOp w = 0x21) ∧ 25 < (fieldA w).toNat then 3
        else if (fieldOp w = 0x10 ∨ fieldOp w = 0x20 ∨ fieldOp w = 0x22) ∧
            (fieldV w).extractLsb' 23 8 = 0xFF ∧ (fieldV w).extractLsb' 0 23 ≠ 0 then 4
        else 0

/-- A command answered with a status other than OK leaves every piece of state unchanged. (R84, R401, R404) -/
def Obligations.ReportedConditionsChangeNothing : Prop :=
  ∀ (s t : State) (w r : Word64) (rest : List Word64), s.cmdPort = w :: rest → step s = .next t →
    t.rspPort = s.rspPort ++ [r] → r.extractLsb' 48 8 ≠ 0 →
    t = { s with
          cmdPort := rest
          rspPort := s.rspPort ++ [r]
          pcmPort := s.pcmPort ++
            if fieldOp w = 0x30 then List.replicate (min (w.extractLsb' 32 16).toNat 256) 0 else [] }

/-- No step changes the configuration, and the ports are queues. (R46, R66, R80, R95) -/
def Obligations.StepFrame : Prop :=
  ∀ s t : State, step s = .next t →
    t.cfg = s.cfg ∧ t.cmdPort = s.cmdPort.tail ∧ s.rspPort <+: t.rspPort ∧ s.pcmPort <+: t.pcmPort ∧
      s.frameNo ≤ t.frameNo

/-- CREATE gives every state element the value of R421, whatever the state before. (R421) -/
def Obligations.CreateResult : Prop :=
  ∀ s : State,
    let d := s.cfg.paramDefault
    exec .create s = .next { s with
      instValid := true
      eng :=
        { params := d
          volume := s.cfg.volumeDefault
          octave := s.cfg.octaveDefault
          bendSemi := 0
          voices := Vector.replicate 6
            { active := false, note := none, freq := 0, vel := 0, bendMul := 1
              vcaMode := if tag d[1] 2 = 0 then .envelopeGated else .gateSwitched
              pwmSrc := if tag d[3] 3 = 0 then .manual else if tag d[3] 3 = 1 then .lfoModulated
                else .envelopeModulated
              osc := { saw := { y := d[4], t := d[4] }, pulse := { y := d[5], t := d[5] }
                       sub := { y := d[6], t := d[6] }, noise := { y := d[7], t := d[7] }
                       phase := 0, subSign := .plus, aux := (oscAux s.cfg).1, noiseAux := (oscAux s.cfg).2 }
              vcf := { y1 := 0, y2 := 0, y3 := 0, y4 := 0, aux := (vcfReset s.cfg).aux }
              envA := { stage := .idle, level := 0, aux := envAux s.cfg }
              envG := { stage := .idle, level := 0, aux := envAux s.cfg }
              pwmSm := { y := d[2], t := d[2] } }
          sm := { pitchMod := { y := d[9], t := d[9] }, cutoff := { y := d[10], t := d[10] }
                  res := { y := d[11], t := d[11] }, envMod := { y := d[12], t := d[12] }
                  lfoMod := { y := d[13], t := d[13] }, kbdMod := { y := d[14], t := d[14] }
                  bendMod := { y := d[15], t := d[15] } }
          lfo := { phase := 0, out := 0, stage := .off, cnt := 0, ramp := 0, hold := 0, gate := false
                   aux := (lfoShutdown s.cfg).aux }
          hp := { lp := 0, aux := (hpfReset s.cfg).aux }
          chorus := { line := List.replicate s.cfg.chLen 0, w := 0, ph0 := 0, ph1 := 0
                      aux := (initialChorus s.cfg).aux } }
      rspPort := s.rspPort ++ [0x0100000000000000] }

/-- DESTROY clears INST_VALID, and a CREATE after it leaves the same engine as one before it. (R114, R423) -/
def Obligations.DestroyResult : Prop :=
  ∀ s : State, s.instValid = true →
    ∃ t, exec .destroy s = .next t ∧ t.instValid = false ∧ t.cfg = s.cfg ∧ t.frameNo = s.frameNo ∧
      t.cmdPort = s.cmdPort ∧ t.pcmPort = s.pcmPort ∧ t.rspPort = s.rspPort ++ [0x0200000000000000] ∧
      ∀ u w, exec .create t = .next u → exec .create s = .next w → u.eng = w.eng ∧ u.instValid = true

/-- GETVC answers the number of active voices and their mask, and changes no state. (R116) -/
def Obligations.GetvcResult : Prop :=
  ∀ s : State,
    (s.instValid = false → exec .getvc s = .next { s with rspPort := s.rspPort ++ [0x0301000000000000] }) ∧
    (s.instValid = true → ∃ n m : Nat,
      exec .getvc s = .next { s with
        rspPort := s.rspPort ++ [(0x03 : Word8) ++ (0x00 : Word8) ++ BitVec.ofNat 16 n ++ BitVec.ofNat 32 m] } ∧
      n = (Finset.univ.filter fun k : Fin 6 => (s.eng.voices[k]).active = true).card ∧ n ≤ 6 ∧
      ∀ j : Nat, m.testBit j = true ↔ ∃ k : Fin 6, k.val = j ∧ (s.eng.voices[k]).active = true)

/-- Without an instance every command but CREATE does nothing and answers NOINST; RENDER emits silence. (R30,
R110, R320, R321) -/
def Obligations.NoInstanceMeansNoOperation : Prop :=
  ∀ (i : Instr) (s : State), s.instValid = false → i ≠ .create →
    exec i s = .next
      (match i with
       | .render b =>
         { s with
           pcmPort := s.pcmPort ++ List.replicate (min b 256) 0
           rspPort := s.rspPort ++ [(0x30 : Word8) ++ (0x01 : Word8) ++ BitVec.ofNat 16 (min b 256) ++ (0 : Word32)] }
       | _ => { s with rspPort := s.rspPort ++ [opcodeOf i ++ (0x01 : Word8) ++ (0 : Word16) ++ (0 : Word32)] })

/-- The allocation policy: first inactive slot, else first released slot, else slot 0; and what released means.
(R128, R196) -/
def Obligations.AllocPolicy : Prop :=
  ∀ (c : Config) (vs : Vector Voice 6),
    (∀ k : Fin 6, (vs[k]).active = false → (∀ j : Fin 6, j < k → (vs[j]).active = true) → alloc c vs = k) ∧
    ((∀ j : Fin 6, (vs[j]).active = true) →
      (∀ k : Fin 6, envReleased c (currentEnv vs[k]) = true →
        (∀ j : Fin 6, j < k → envReleased c (currentEnv vs[j]) = false) → alloc c vs = k) ∧
      ((∀ j : Fin 6, envReleased c (currentEnv vs[j]) = false) → alloc c vs = 0)) ∧
    ∀ e : EnvState,
      (c.releasedReading = .completed →
        (envReleased c e = true ↔ (e.stage = .release ∧ e.level ≤ c.envReleasedEps) ∨ e.stage = .idle)) ∧
      (c.releasedReading = .entered → (envReleased c e = true ↔ e.stage = .release ∨ e.stage = .idle))

/-- NOTEON allocates a slot, tunes and triggers it, and starts the LFO in Auto mode if no other voice sounds.
The operations are those of the configuration's NUM, which round in a NUM that is not exact (log entry 1). (R11,
R126, R130, R131, R191, R215, R264) -/
def Obligations.NoteonResult : Prop :=
  ∀ (s : State) (note : Nat) (v : Word32) (vel : NUM), s.instValid = true → numOperand v 0 1 = some vel →
    let k := alloc s.cfg s.eng.voices
    let u := s.eng.voices[k]
    let n : Nat := (max 0 (min 127 ((note : Int) + 12 * s.eng.octave))).toNat
    let num := s.cfg.num
    let struck (e : EnvState) : EnvState :=
      { e with stage := .attack, level := if s.cfg.envRetrig = .zero then 0 else e.level }
    exec (.noteon note v) s = .next { s with
      eng := { s.eng with
        voices := s.eng.voices.set k { u with
          active := true
          note := some n
          vel := vel
          bendMul := exp2 num (num.div s.eng.bendSemi 12)
          freq := num.mul (num.mul 440 (exp2 num (num.div ((n : NUM) - 69) 12))) (exp2 num (num.div s.eng.bendSemi 12))
          vcaMode := if tag s.eng.params[1] 2 = 0 then .envelopeGated else .gateSwitched
          envA := struck u.envA
          envG := struck u.envG
          osc := { u.osc with
            saw := { u.osc.saw with y := u.osc.saw.t }
            pulse := { u.osc.pulse with y := u.osc.pulse.t }
            sub := { u.osc.sub with y := u.osc.sub.t }
            noise := { u.osc.noise with y := u.osc.noise.t } } }
        lfo :=
          if tag s.eng.params[20] 2 = 0 ∧
              ∀ j : Fin 6, j ≠ k → ¬((s.eng.voices[j]).active = true ∧
                envReleased s.cfg (currentEnv s.eng.voices[j]) = false)
          then { s.eng.lfo with gate := true, stage := .delay, cnt := 0, ramp := 0 }
          else s.eng.lfo }
      rspPort := s.rspPort ++ [0x1000000000000000] }

/-- NOTEOFF releases the first matching voice, with an LFO note-off when none sounds; without a match it is a
no-op. (R126, R135, R192, R201, R265, R402) -/
def Obligations.NoteoffResult : Prop :=
  ∀ (s : State) (note : Nat), s.instValid = true →
    let n : Nat := (max 0 (min 127 ((note : Int) + 12 * s.eng.octave))).toNat
    let hit (j : Fin 6) : Prop := (s.eng.voices[j]).active = true ∧
      envReleased s.cfg (currentEnv s.eng.voices[j]) = false ∧ (s.eng.voices[j]).note = some n
    let released (e : EnvState) : EnvState :=
      if e.stage = .attack ∨ e.stage = .decay ∨ e.stage = .sustain then { e with stage := .release } else e
    (∀ k : Fin 6, hit k → (∀ j : Fin 6, j < k → ¬hit j) →
      let u := s.eng.voices[k]
      let vs := s.eng.voices.set k { u with envA := released u.envA, envG := released u.envG }
      exec (.noteoff note) s = .next { s with
        eng := { s.eng with
          voices := vs
          lfo :=
            if tag s.eng.params[20] 2 = 0 ∧
                ∀ j : Fin 6, ¬((vs[j]).active = true ∧ envReleased s.cfg (currentEnv vs[j]) = false)
            then { s.eng.lfo with gate := false } else s.eng.lfo }
        rspPort := s.rspPort ++ [0x1100000000000000] }) ∧
    ((∀ j : Fin 6, ¬hit j) →
      exec (.noteoff note) s = .next { s with rspPort := s.rspPort ++ [0x1100000000000000] })

/-- CC 120 and 123 silence every active voice at once; every other controller is a no-op. (R140, R141, R142,
R193) -/
def Obligations.CcResult : Prop :=
  ∀ (s : State) (number value : Nat), s.instValid = true →
    exec (.cc number value) s = .next { s with
      eng := { s.eng with
        voices := s.eng.voices.map fun v =>
          if (number = 120 ∨ number = 123) ∧ v.active = true then
            { v with active := false, note := none
                     envA := { stage := .idle, level := 0, aux := envAux s.cfg }
                     envG := { stage := .idle, level := 0, aux := envAux s.cfg } }
          else v }
      rspPort := s.rspPort ++ [0x1200000000000000] }

/-- BEND stores the bend in semitones and retunes every active voice, and only those. The operations are those
of the configuration's NUM, which round in a NUM that is not exact (log entry 1). That an active voice without a
note is tuned as note 0 is the model's choice, in states no run reaches (log entry 9). (R145) -/
def Obligations.BendResult : Prop :=
  ∀ (s : State) (value : Nat),
    (s.instValid = false →
      exec (.bend value) s = .next { s with rspPort := s.rspPort ++ [0x1301000000000000] }) ∧
    (s.instValid = true →
    let num := s.cfg.num
    let b : NUM := num.mul (num.div (((min value 16383 : Nat) : NUM) - 8192) 8192) 7
    exec (.bend value) s = .next { s with
      eng := { s.eng with
        bendSemi := b
        voices := s.eng.voices.map fun v =>
          if v.active = true then
            { v with
              bendMul := exp2 num (num.div b 12)
              freq := num.mul (num.mul 440 (exp2 num (num.div (((v.note.getD 0 : Nat) : NUM) - 69) 12)))
                (exp2 num (num.div b 12)) }
          else v }
      rspPort := s.rspPort ++ [0x1300000000000000] })

/-- The bend is -7 at 0, 0 at 8192, 6.9991455078125 from 16383 on, never outside, and exact in binary32. (R33,
R145, R146) -/
def Obligations.BendRangeAndExtremes : Prop :=
  ∀ n : Numerics, n.carrier = .rational →
    bendSemitones n 0 = -7 ∧ bendSemitones n 8192 = 0 ∧
    (∀ b : Nat, 16383 ≤ b → bendSemitones n b = 69991455078125 / 10000000000000) ∧
    (∀ a b : Nat, a ≤ b → bendSemitones n a ≤ bendSemitones n b) ∧
    ∀ b : Nat, -7 ≤ bendSemitones n b ∧ bendSemitones n b < 7 ∧ IsBinary32 (bendSemitones n b)

/-- Scenario B: seven notes on an idle pool leave six active voices, the seventh in slot 0. (R128, R130, R132)
-/
def Obligations.SeventhNoteStealsSlotZero : Prop :=
  ∀ (s : State) (note : Fin 7 → Nat) (v : Fin 7 → Word32), s.instValid = true →
    (∀ k : Fin 6, (s.eng.voices[k]).active = false) → (∀ j, numOperand (v j) 0 1 ≠ none) →
    ∃ t, runAll (List.ofFn fun j : Fin 7 => Instr.noteon (note j) (v j)) s = .next t ∧
      (∀ k : Fin 6, (t.eng.voices[k]).active = true) ∧
      (t.eng.voices[0]).note = some (transposedNote s.eng.octave (note 6)) ∧
      ∀ k : Fin 6, k ≠ 0 →
        (t.eng.voices[k]).note = some (transposedNote s.eng.octave (note k.castSucc))

/-- A NOTEOFF after a change of octave misses the voice its NOTEON made. (R126, R135, R382, R434) -/
def Obligations.OctaveChangeLeavesNoteHeld : Prop :=
  ∀ (s : State) (a : Nat) (v : Word32) (o : Int), s.instValid = true →
    (∀ k : Fin 6, (s.eng.voices[k]).active = false) → numOperand v 0 1 ≠ none →
    transposedNote (octaveSetting s.cfg o) a ≠ transposedNote s.eng.octave a →
    ∃ t, runAll [.noteon a v, .setoct o, .noteoff a] s = .next t ∧
      (t.eng.voices[0]).active = true ∧ (t.eng.voices[0]).note = some (transposedNote s.eng.octave a) ∧
      (t.eng.voices[0]).envA.stage = .attack ∧ (t.eng.voices[0]).envG.stage = .attack

/-- Field V reads as IEEE 754 binary32, clamped; the infinities go to the nearer bound, a NaN has no value. (R9,
R11, R88) -/
def Obligations.NumOperandValues : Prop :=
  ∀ (v : Word32) (lo hi : NUM), lo ≤ hi →
    let e : Nat := (v.extractLsb' 23 8).toNat
    let f : Nat := (v.extractLsb' 0 23).toNat
    let sgn : NUM := if v.getLsbD 31 = true then -1 else 1
    (1 ≤ e → e ≤ 254 → numOperand v lo hi =
      some (max lo (min hi (sgn * (2 : NUM) ^ ((e : Int) - 127) * (1 + (f : NUM) / 2 ^ 23))))) ∧
    (e = 0 → numOperand v lo hi = some (max lo (min hi (sgn * (2 : NUM) ^ (-126 : Int) * ((f : NUM) / 2 ^ 23))))) ∧
    (e = 255 → f = 0 → numOperand v lo hi = some (if v.getLsbD 31 = true then lo else hi)) ∧
    (numOperand v lo hi = none ↔ e = 255 ∧ f ≠ 0)

/-- The twelve PARAM commands without a fan-out write their one register and nothing else. (R350, R352, R353,
R360, R368, R369, R370, R371, R373, R374, R375, R376) -/
def Obligations.PlainParamResult : Prop :=
  ∀ p ∈ ([(Instr.paramVcaDepth, 0), (Instr.paramVcaType, 1), (Instr.paramDcoRange, 8),
      (Instr.paramEnvAttack, 16), (Instr.paramEnvDecay, 17), (Instr.paramEnvSustain, 18),
      (Instr.paramEnvRelease, 19), (Instr.paramLfoRate, 21), (Instr.paramLfoDelay, 22),
      (Instr.paramHpfAmount, 23), (Instr.paramChorusI, 24), (Instr.paramChorusII, 25)] :
      List ((Word32 → Instr) × Fin 26)),
    ∀ (v : Word32) (x : NUM) (s : State), s.instValid = true →
      numOperand v 0 (if p.2 = 8 then 2 else 1) = some x →
      exec (p.1 v) s = .next { s with
        eng := { s.eng with params := s.eng.params.set p.2 x }
        rspPort := s.rspPort ++ [0x2000000000000000] }

/-- The six PARAM commands that fan out to the voices write the same field of all six voices. (R173, R350, R354,
R355, R356, R357, R358, R359) -/
def Obligations.VoiceFanoutParamResult : Prop :=
  ∀ p ∈ ([(Instr.paramDcoPwmDepth, 2, fun v x => { v with pwmSm := { v.pwmSm with t := x } }),
      (Instr.paramDcoPwmMod, 3, fun v x =>
        { v with pwmSrc := if tag x 3 = 0 then .manual else if tag x 3 = 1 then .lfoModulated
                           else .envelopeModulated }),
      (Instr.paramDcoSawLevel, 4, fun v x => { v with osc := { v.osc with saw := { v.osc.saw with t := x } } }),
      (Instr.paramDcoPulseLevel, 5, fun v x => { v with osc := { v.osc with pulse := { v.osc.pulse with t := x } } }),
      (Instr.paramDcoSubLevel, 6, fun v x => { v with osc := { v.osc with sub := { v.osc.sub with t := x } } }),
      (Instr.paramDcoNoiseLevel, 7, fun v x =>
        { v with osc := { v.osc with noise := { v.osc.noise with t := x } } })] :
      List ((Word32 → Instr) × Fin 26 × (Voice → NUM → Voice))),
    ∀ (v : Word32) (x : NUM) (s : State), s.instValid = true →
      numOperand v 0 (if p.2.1 = 3 then 2 else 1) = some x →
      exec (p.1 v) s = .next { s with
        eng := { s.eng with
          params := s.eng.params.set p.2.1 x
          voices := s.eng.voices.map fun u => p.2.2 u x }
        rspPort := s.rspPort ++ [0x2000000000000000] }

/-- The seven PARAM commands of the shared smoothers set their target and leave its value alone. (R40, R173,
R350, R361, R362, R363, R364, R365, R366, R367) -/
def Obligations.SharedSmootherParamResult : Prop :=
  ∀ p ∈ ([(Instr.paramDcoPitchMod, 9, fun m x => { m with pitchMod := { m.pitchMod with t := x } }),
      (Instr.paramVcfCutoff, 10, fun m x => { m with cutoff := { m.cutoff with t := x } }),
      (Instr.paramVcfResonance, 11, fun m x => { m with res := { m.res with t := x } }),
      (Instr.paramVcfEnvMod, 12, fun m x => { m with envMod := { m.envMod with t := x } }),
      (Instr.paramVcfLfoMod, 13, fun m x => { m with lfoMod := { m.lfoMod with t := x } }),
      (Instr.paramVcfKbdMod, 14, fun m x => { m with kbdMod := { m.kbdMod with t := x } }),
      (Instr.paramVcfBendMod, 15, fun m x => { m with bendMod := { m.bendMod with t := x } })] :
      List ((Word32 → Instr) × Fin 26 × (SharedSm → NUM → SharedSm))),
    ∀ (v : Word32) (x : NUM) (s : State), s.instValid = true → numOperand v 0 1 = some x →
      exec (p.1 v) s = .next { s with
        eng := { s.eng with params := s.eng.params.set p.2.1 x, sm := p.2.2 s.eng.sm x }
        rspPort := s.rspPort ++ [0x2000000000000000] }

/-- PARAM.LFO_TRIG_MODE shuts the LFO down when the tag changes, and only then. (R263, R277, R350, R372) -/
def Obligations.LfoTrigModeResult : Prop :=
  ∀ (v : Word32) (x : NUM) (s : State), s.instValid = true → numOperand v 0 1 = some x →
    exec (.paramLfoTrigMode v) s = .next { s with
      eng := { s.eng with
        params := s.eng.params.set 20 x
        lfo :=
          if tag s.eng.params[20] 2 = tag x 2 then s.eng.lfo
          else { phase := 0, out := 0, stage := .off, cnt := 0, ramp := 0, hold := 0, gate := false
                 aux := (lfoShutdown s.cfg).aux } }
      rspPort := s.rspPort ++ [0x2000000000000000] }

/-- GETP answers the binary32 pattern of the register, or BADIDX, and changes no state. (R84, R92, R380) -/
def Obligations.GetpResult : Prop :=
  ∀ s : State, s.instValid = true →
    (∀ i : Fin 26, exec (.getp i) s = .next { s with
      rspPort := s.rspPort ++ [(0x21 : Word8) ++ (0 : Word8) ++ (0 : Word16) ++ f32Encode s.eng.params[i]] }) ∧
    ∀ j : Nat, 25 < j → exec (.getp j) s = .next { s with rspPort := s.rspPort ++ [0x2103000000000000] }

/-- SETVOL, GETVOL, SETOCT and GETOCT write and read their register and nothing else. (R89, R92, R381, R382,
R383, R384) -/
def Obligations.VolumeAndOctaveResults : Prop :=
  ∀ s : State, s.instValid = true →
    (∀ (v : Word32) (x : NUM), numOperand v 0 1 = some x →
      exec (.setvol v) s = .next { s with
        eng := { s.eng with volume := x }, rspPort := s.rspPort ++ [0x2200000000000000] }) ∧
    exec .getvol s = .next { s with
      rspPort := s.rspPort ++ [(0x23 : Word8) ++ (0 : Word8) ++ (0 : Word16) ++ f32Encode s.eng.volume] } ∧
    (∀ o : Int, s.cfg.octMin ≤ s.cfg.octMax →
      exec (.setoct o) s = .next { s with
        eng := { s.eng with octave := max s.cfg.octMin (min s.cfg.octMax o) }
        rspPort := s.rspPort ++ [0x2400000000000000] }) ∧
    exec .getoct s = .next { s with
      rspPort := s.rspPort ++ [(0x25 : Word8) ++ (0 : Word8) ++ (0 : Word16) ++ BitVec.ofInt 32 s.eng.octave] }

/-- Encoding the value of a finite binary32 pattern gives that pattern back, but for minus zero. (R9, R88, R351,
R380) -/
def Obligations.Binary32RoundTrip : Prop :=
  ∀ (v : Word32) (q : NUM), f32Decode v = .fin q → f32Encode q = if v = 0x80000000 then 0 else v

/-- PARAM with the value GETP answered changes no state at all. (R22, R351, R380, R387) -/
def Obligations.ReadBackIsLossless : Prop :=
  ∀ (s : State) (k : Fin 26), s.instValid = true → s.ParamsInDomain → s.TargetsAgree →
    ∃ v : Word32,
      exec (.getp k) s = .next { s with
        rspPort := s.rspPort ++ [(0x21 : Word8) ++ (0 : Word8) ++ (0 : Word16) ++ v] } ∧
      f32Decode v = .fin s.eng.params[k] ∧
      ∃ i, paramInstr k v = some i ∧ exec i s = .next { s with rspPort := s.rspPort ++ [0x2000000000000000] }

/-- A PRESET sets all 26 registers, and applying it again changes nothing. (R386) -/
def Obligations.PresetIsIdempotent : Prop :=
  ∀ (s : State) (vs : Vector Word32 26), s.instValid = true →
    ∃ t u, runAll (preset vs) s = .next t ∧ runAll (preset vs) t = .next u ∧
      (∀ i : Fin 26, t.eng.params[i] =
        (numOperand vs[i] 0 (if i.val = 3 ∨ i.val = 8 then 2 else 1)).getD s.eng.params[i]) ∧
      u.eng = t.eng ∧ t.instValid = true

/-- RENDER with an instance is the block rendered frame by frame over all units. R67 derives this from R322 to
R334. It rests on the draws being indexed by unit and frame (log entries 5 and 23) and on the order the model
runs the units in (log entry 24). (R67) -/
def Obligations.RenderIsFrameByFrame : Prop :=
  ∀ (b : Nat) (s : State), s.instValid = true →
    let r := renderByFrame s.cfg Config.rand s.frameNo (min b 256) s.eng
    exec (.render b) s = .next { s with
      eng := r.eng
      frameNo := s.frameNo + min b 256
      pcmPort := s.pcmPort ++ r.out.map fun x =>
        frameWord (pcmConvert s.cfg s.eng.volume (.fin x.1)) (pcmConvert s.cfg s.eng.volume (.fin x.2))
      rspPort := s.rspPort ++ [(0x30 : Word8) ++ (0 : Word8) ++ BitVec.ofNat 16 (min b 256) ++ (0 : Word32)] }

/-- RENDER emits exactly F frames and one response, and leaves every register it does not render alone. (R95,
R320, R321, R327, R332, R341, R424) -/
def Obligations.RenderLeaves : Prop :=
  ∀ (b : Nat) (s : State), s.instValid = true →
    ∃ (t : State) (fs : List Word32), exec (.render b) s = .next t ∧
      fs.length = min b 256 ∧ t.pcmPort = s.pcmPort ++ fs ∧
      t.rspPort = s.rspPort ++ [(0x30 : Word8) ++ (0 : Word8) ++ BitVec.ofNat 16 (min b 256) ++ (0 : Word32)] ∧
      t.cmdPort = s.cmdPort ∧ t.cfg = s.cfg ∧ t.instValid = true ∧ t.freeNo = s.freeNo ∧
      t.eng.params = s.eng.params ∧ t.eng.volume = s.eng.volume ∧ t.eng.octave = s.eng.octave ∧
      t.eng.bendSemi = s.eng.bendSemi ∧
      (t.eng.sm.pitchMod.t = s.eng.sm.pitchMod.t ∧ t.eng.sm.cutoff.t = s.eng.sm.cutoff.t ∧
        t.eng.sm.res.t = s.eng.sm.res.t ∧ t.eng.sm.envMod.t = s.eng.sm.envMod.t ∧
        t.eng.sm.lfoMod.t = s.eng.sm.lfoMod.t ∧ t.eng.sm.kbdMod.t = s.eng.sm.kbdMod.t ∧
        t.eng.sm.bendMod.t = s.eng.sm.bendMod.t) ∧
      ∀ k : Fin 6,
        let u := s.eng.voices[k]
        let v := t.eng.voices[k]
        (u.active = false → v = u) ∧
        (v.freq = u.freq ∧ v.vel = u.vel ∧ v.bendMul = u.bendMul ∧ v.vcaMode = u.vcaMode ∧
          v.pwmSrc = u.pwmSrc ∧ v.pwmSm.t = u.pwmSm.t ∧ v.osc.saw.t = u.osc.saw.t ∧
          v.osc.pulse.t = u.osc.pulse.t ∧ v.osc.sub.t = u.osc.sub.t ∧ v.osc.noise.t = u.osc.noise.t) ∧
        (u.active = true →
          (v.active = true ∧ v.note = u.note ∧ (currentEnv v).stage ≠ .idle) ∨
          (v.active = false ∧ v.note = none ∧ v.envA = envShutdown s.cfg ∧ v.envG = envShutdown s.cfg ∧
            v.vcf = vcfReset s.cfg ∧ v.osc.phase = 0 ∧ v.osc.subSign = .plus ∧
            v.osc.aux = (oscAux s.cfg).1 ∧ v.osc.noiseAux = (oscAux s.cfg).2 ∧
            v.osc.saw.y = u.osc.saw.t ∧
            v.osc.pulse.y = u.osc.pulse.t ∧ v.osc.sub.y = u.osc.sub.t ∧ v.osc.noise.y = u.osc.noise.t))

/-- RENDER 1 by its formulas: envelope times, oscillator frequency, PWM value, cutoff, amplitude, mix and
effects chain. The formulas are in exact arithmetic (log entry 1). The note of an active voice that holds none,
which no run reaches, reads as 0 (log entry 9); the draws are indexed by unit and frame (log entry 5). (R185,
R202, R213, R223, R228, R242, R243, R290, R306, R326, R331, R333) -/
def Obligations.RenderOneFrame : Prop :=
  ∀ s : State, s.instValid = true → s.cfg.num.carrier = .rational →
    let c := s.cfg
    let e := s.eng
    let p := e.params
    let smooth (m : Smoother) : NUM := m.y + c.smoothCoef * (m.t - m.y)
    let lfo := lfoAdvance c p (drawValue (Config.rand .lfo s.frameNo)) e.lfo
    let envA (v : Voice) : EnvState := envAdvance c
      { attackS := curve c.num c.ctAttack p[16], decayS := curve c.num c.ctDecay p[17]
        sustain := curve c.num c.ctSustain p[18], releaseS := curve c.num c.ctDecay p[19] } v.envA
    let envG (v : Voice) : EnvState :=
      if v.vcaMode = .gateSwitched then
        envAdvance c { attackS := 1/400, decayS := 3/500, sustain := 49/50, releaseS := 3/500 } v.envG
      else v.envG
    let amp (v : Voice) : NUM := if v.vcaMode = .gateSwitched then (envG v).level else (envA v).level
    let pwm (v : Voice) : NUM := smooth v.pwmSm * pwmSource c v.pwmSrc lfo.out (envA v).level (amp v)
    let freq (v : Voice) : NUM :=
      v.freq * (if tag p[8] 3 = 0 then 1/2 else if tag p[8] 3 = 1 then 1 else 2) *
        exp2 c.num (lfo.out * smooth e.sm.pitchMod * c.pitchModOct)
    let osc (k : Fin 6) (v : Voice) := oscSample c v.osc (freq v) (pwm v) (drawValue (Config.rand (.voice k) s.frameNo))
    let oct (v : Voice) : NUM :=
      (smooth e.sm.cutoff * (200/12) + smooth e.sm.res * (1/2)) + smooth e.sm.envMod * (envA v).level * 12
        + 3 * smooth e.sm.lfoMod * lfo.out * amp v
        + smooth e.sm.kbdMod * (((v.note.getD 0 : Nat) : NUM) - 60) / 12
        + smooth e.sm.bendMod * e.bendSemi * (48/84)
    let vcf (k : Fin 6) (v : Voice) :=
      vcfSample c v.vcf (osc k v).2 (39/5 * exp2 c.num (oct v)) (smooth e.sm.res)
    let term (k : Fin 6) : NUM :=
      let v := e.voices[k]
      if v.active = true then (vcf k v).2 * amp v * v.vel ^ 2 / 6 else 0
    let hp := hpfSample c p e.hp (∑ k : Fin 6, term k)
    let clipped := softClip c (hp.2 * curve c.num c.ctVca p[0])
    let ch := chorusSample c e.chorus clipped (decide (tag p[24] 2 = 1)) (decide (tag p[25] 2 = 1))
    (∃ t, exec (.render 1) s = .next t ∧
      t.pcmPort = s.pcmPort ++ [frameWord (pcmConvert c e.volume (.fin ch.2.1)) (pcmConvert c e.volume (.fin ch.2.2))] ∧
      t.rspPort = s.rspPort ++ [0x3000000100000000] ∧ t.frameNo = s.frameNo + 1 ∧
      t.eng.lfo = lfo ∧ t.eng.hp = hp.1 ∧ t.eng.chorus = ch.1 ∧
      (t.eng.sm.pitchMod.y = smooth e.sm.pitchMod ∧ t.eng.sm.cutoff.y = smooth e.sm.cutoff ∧
        t.eng.sm.res.y = smooth e.sm.res ∧ t.eng.sm.envMod.y = smooth e.sm.envMod ∧
        t.eng.sm.lfoMod.y = smooth e.sm.lfoMod ∧ t.eng.sm.kbdMod.y = smooth e.sm.kbdMod ∧
        t.eng.sm.bendMod.y = smooth e.sm.bendMod) ∧
      ∀ k : Fin 6,
        let v := e.voices[k]
        t.eng.voices[k] =
          if v.active = true then
            deactivationCheck c { v with
              envA := envA v, envG := envG v, pwmSm := { v.pwmSm with y := smooth v.pwmSm }
              osc := (osc k v).1, vcf := (vcf k v).1 }
          else v) ∧
    (c.pwmSource = .reference → ∀ lfoVal envVal ampVal : NUM,
      pwmSource c .manual lfoVal envVal ampVal = 1 ∧
      pwmSource c .lfoModulated lfoVal envVal ampVal = 1/2 * (1 + lfoVal) ∧
      pwmSource c .envelopeModulated lfoVal envVal ampVal = envVal)

/-- RENDER a then RENDER b leaves and emits what RENDER a+b does, but for the PWM depth of a voice that ended
first. The number of draws of R341 (d) does not show, since a draw is indexed by its unit and frame (log entry
5). (R338, R341) -/
def Obligations.SplitBlockRendersTheSame : Prop :=
  ∀ (a b : Nat) (s : State), s.instValid = true → s.cfg.num.carrier = .rational → a + b ≤ 256 →
    ∃ t u w, exec (.render a) s = .next t ∧ exec (.render b) t = .next u ∧ exec (.render (a + b)) s = .next w ∧
      { u with eng := { u.eng with voices := w.eng.voices }, rspPort := w.rspPort } = w ∧
      ∀ k : Fin 6,
        ((s.eng.voices[k]).active = false ∨ (t.eng.voices[k]).active = true →
          u.eng.voices[k] = w.eng.voices[k]) ∧
        u.eng.voices[k] = { w.eng.voices[k] with
          pwmSm := { (w.eng.voices[k]).pwmSm with y := (u.eng.voices[k]).pwmSm.y } }

/-- RENDER 0 changes no state and answers OK, or NOINST without an instance. (R340) -/
def Obligations.RenderOfNoFrames : Prop :=
  ∀ s : State,
    (s.instValid = true → s.VoicesConsistent →
      exec (.render 0) s = .next { s with rspPort := s.rspPort ++ [0x3000000000000000] }) ∧
    (s.instValid = false → exec (.render 0) s = .next { s with rspPort := s.rspPort ++ [0x3001000000000000] })

/-- RENDER straight after CREATE emits only zero frames; the reference effects move nothing but the chorus index
and phases. That the chorus index and phases move, where test vector Z3 says nothing does, is the model's
reading of R305 (log entry 19, DEDUCED). (R294, R300, R304, R305, R421, R425) -/
def Obligations.FreshInstanceIsSilent : Prop :=
  ∀ (s : State) (b : Nat), ∃ t u, exec .create s = .next t ∧ exec (.render b) t = .next u ∧
    let plain := s.cfg.hpfKernel = .reference ∧ s.cfg.softClip = .reference ∧ s.cfg.chorusKernel = .reference
    (plain ∨ (s.cfg.Valid ∧ s.cfg.num.carrier = .rational) → u.pcmPort = t.pcmPort ++ List.replicate (min b 256) 0) ∧
    (plain → s.cfg.num.carrier = .rational → { u.eng with chorus := { u.eng.chorus with w := 0, ph0 := 0, ph1 := 0 } } = t.eng)

/-- Scenario A under the reference configuration: the first eight frames of a note are those of R342. (R342,
R422) -/
def Obligations.ScenarioAFirstFrames : Prop :=
  ∀ s : State, s.cfg = Config.reference →
    ∃ t, runAll [.create, .noteon 60 0x3F800000, .render 8] s = .next t ∧
      t.pcmPort = s.pcmPort ++ [0x00000000, 0xFFFBFFFB, 0xFFEDFFED, 0xFFD2FFD2, 0xFFA8FFA8, 0xFF6DFF6D,
        0xFF24FF24, 0xFECCFECC] ∧
      (t.eng.voices[0]).active = true

/-- With no noise level and no random LFO waveform, RENDER does not depend on the draws. (R52, R220, R269, R273)
-/
def Obligations.DrawsReachOnlyNoise : Prop :=
  ∀ (d d' : Draws) (b : Nat) (s : State),
    (s.cfg.lfoWave = .triangle ∨ s.cfg.lfoWave = .sine ∨ s.cfg.lfoWave = .square) →
    (∀ k : Fin 6, (s.eng.voices[k]).osc.noise = { y := 0, t := 0 }) →
    let t := renderWith d b s
    let t' := renderWith d' b s
    { t with eng := t.eng.withoutNoiseState } = { t' with eng := t'.eng.withoutNoiseState } ∧
    (s.cfg.oscKernel = .reference → t = t')

/-- Every frame the effects chain yields is in [-1, 1] on both channels, whatever the draws. (R300, R304, R310)
-/
def Obligations.RenderOutputIsBounded : Prop :=
  ∀ (s : State) (d : Draws) (n : Nat), s.cfg.Valid → s.cfg.num.carrier = .rational → s.instValid = true →
    s.NumbersInRange →
    ∀ x ∈ (renderBlock s.cfg d s.frameNo n s.eng).out, |x.1| ≤ 1 ∧ |x.2| ≤ 1

/-- The PCM conversion saturates at 32767 and -32768, infinities too, sends a NaN to 0, never wraps, and else
drops the fraction. (R337) -/
def Obligations.PcmConversion : Prop :=
  ∀ (c : Config) (volume : NUM),
    (∀ (x : F32) (s : NUM), pcmScaled c volume x = .fin s →
      (32767 ≤ s → pcmConvert c volume x = 32767) ∧
      (s ≤ -32768 → pcmConvert c volume x = -32768) ∧
      (-32768 < s → s < 32767 → c.pcmRound = .truncate → pcmConvert c volume x = if 0 ≤ s then ⌊s⌋ else -⌊-s⌋) ∧
      (-32768 < s → s < 32767 → c.pcmRound = .nearest → c.num.carrier = .rational →
        pcmConvert c volume x = ⌊s + 1/2⌋)) ∧
    (∀ x : F32,
      (pcmScaled c volume x = .posInf → pcmConvert c volume x = 32767) ∧
      (pcmScaled c volume x = .negInf → pcmConvert c volume x = -32768) ∧
      (pcmScaled c volume x = .nan → pcmConvert c volume x = 0) ∧
      -32768 ≤ pcmConvert c volume x ∧ pcmConvert c volume x ≤ 32767) ∧
    pcmConvert c volume .nan = 0 ∧
    ((c.num.toCarrier c.masterGain).sign = 1 → (c.num.toCarrier volume).sign = 1 →
      pcmConvert c volume .posInf = 32767 ∧ pcmConvert c volume .negInf = -32768) ∧
    (c.num.carrier = .rational → ∀ x : NUM,
      pcmScaled c volume (.fin x) = .fin (x * c.masterGain * volume * 32767) ∧
      (0 ≤ c.masterGain * volume → c.masterGain * volume ≤ 1 → |x| ≤ 1 →
        -32767 ≤ pcmConvert c volume (.fin x) ∧ pcmConvert c volume (.fin x) ≤ 32767))

/-- An envelope advance follows the stage order within [0, 1]; a reference release ends within
ceil(v*releaseS*FS)+1 advances. What K2 to K6 ask, and the end of Attack at 1, of Decay at the sustain level and
of Release at ENV_IDLE_EPS, is done once for all kernels, by the model's form of a program (log entry 4). (R181,
R190, R194, R197, R370) -/
def Obligations.EnvelopeAdvanceConstraints : Prop :=
  ∀ (c : Config) (cfg : EnvCfg) (e : EnvState), c.num.carrier = .rational → 0 ≤ c.envIdleEps →
    (EnvAdmissible cfg → e.InRange →
      let e' := envAdvance c cfg e
      (e'.stage = e.stage ∨ (e.stage = .attack ∧ e'.stage = .decay) ∨ (e.stage = .decay ∧ e'.stage = .sustain) ∨
        (e.stage = .release ∧ e'.stage = .idle)) ∧
      e'.InRange ∧
      (e.stage = .attack → e.level ≤ e'.level) ∧
      (e.stage = .release → e'.level ≤ e.level) ∧
      (e'.stage = .sustain → e'.level = cfg.sustain) ∧
      (e'.stage = .attack → e'.level < 1) ∧
      (e'.stage = .decay → e.stage = .decay → cfg.sustain < e.level ∧ cfg.sustain < e'.level) ∧
      (e'.stage = .release → c.envIdleEps < e'.level)) ∧
    (c.envKernel = .reference → 0 < cfg.releaseS → e.stage = .release → 0 ≤ e.level →
      ∃ n : Nat, n ≤ ⌈e.level * cfg.releaseS * 44100⌉₊ + 1 ∧ ((envAdvance c cfg)^[n] e).stage = .idle)

/-- Under every admissible configuration the envelope, oscillator and filter kernels meet their constraint
rules. That the rules are asked in exact arithmetic, K5 and K7 of R190 under a changing configuration, K2 of
R220 of the samples and K3 and K4 of it of some inputs, and K2 of R248 of pure tones at a cutoff that is held,
are the model's readings (log entry 21, DESIGN CHOICE). (R190, R194, R220, R221, R248, R249) -/
def Obligations.VoiceKernelsMeetTheirRules : Prop :=
  ∀ c : Config, c.Valid →
    EnvKernelMeetsRules c.exact ∧ OscKernelMeetsRules c.exact ∧ VcfKernelMeetsRules c.exact

/-- The reference LFO in Off, Delay, Attack and Run, its five waveforms, and its ramp after n frames. (R261,
R264, R271, R272, R273, R274) -/
def Obligations.LfoAdvanceResult : Prop :=
  ∀ (c : Config) (p : Vector NUM 26) (d : NUM) (l : LfoState), c.lfoKernel = .reference →
    c.num.carrier = .rational →
    let delay := curve c.num c.ctLfoDelay p[22] * 44100
    let attack := curve c.num c.ctLfoAttack p[22] * 44100
    let ph := l.phase + curve c.num c.ctLfoRate p[21] / 44100
    let q : NUM := ph - ⌊ph⌋
    let hold := if c.lfoWave = .random ∧ 1 ≤ ph then d else l.hold
    let wave : NUM :=
      match c.lfoWave with
      | .triangle => if q < 1/4 then 4 * q else if q < 3/4 then 2 - 4 * q else 4 * q - 4
      | .sine => Machine.sin c.num (6.283185307179586 * q)
      | .square => if q < 1/2 then 1 else -1
      | .random => hold
      | .noise => d
    let moved (stage : LfoStage) (cnt : Nat) (ramp : NUM) : LfoState :=
      { l with phase := q, hold := hold, stage := stage, cnt := cnt, ramp := ramp, out := wave * ramp }
    (l.stage = .off → lfoAdvance c p d l = { l with out := 0 }) ∧
    (l.stage = .delay → (l.cnt : NUM) < delay → lfoAdvance c p d l = moved .delay (l.cnt + 1) l.ramp) ∧
    (l.stage = .delay → delay ≤ l.cnt →
      lfoAdvance c p d l = if 1 < attack then moved .attack 1 (1 / attack) else moved .run 1 1) ∧
    (l.stage = .attack →
      lfoAdvance c p d l =
        if (l.cnt : NUM) + 1 < attack then moved .attack (l.cnt + 1) (((l.cnt : NUM) + 1) / attack)
        else moved .run (l.cnt + 1) 1) ∧
    (l.stage = .run → lfoAdvance c p d l = moved .run l.cnt l.ramp) ∧
    (0 < attack → ∀ n : Nat,
      ((lfoAdvance c p d)^[n] (lfoNoteOn l)).ramp = min 1 (((n - ⌈delay⌉₊ : Nat) : NUM) / attack))

/-- After n advances a smoother is at t + (y0 - t) * (1 - SMOOTH_COEF)^n, its target unchanged. (R171, R174) -/
def Obligations.SmootherClosedForm : Prop :=
  ∀ (c : Config) (m : Smoother) (n : Nat), c.num.carrier = .rational →
    (Smoother.advance c)^[n] m = { y := m.t + (m.y - m.t) * (1 - c.smoothCoef) ^ n, t := m.t }

/-- A curve table is the straight line between neighbouring breakpoints, its argument clamped to [0, 1]. (R160)
-/
def Obligations.CurveIsPiecewiseLinear : Prop :=
  ∀ n : Numerics,
    (n.carrier = .rational → ∀ (t pre post : Breakpoints) (a b : NUM × NUM) (u : NUM), tableShape t → t = pre ++ a :: b :: post →
      a.1 ≤ u → u ≤ b.1 → curve n (.points t) u = a.2 + (b.2 - a.2) * ((u - a.1) / (b.1 - a.1))) ∧
    (∀ (t : CurveTable) (u : NUM), u ≤ 0 → curve n t u = curve n t 0) ∧
    (∀ (t : CurveTable) (u : NUM), 1 ≤ u → curve n t u = curve n t 1)

/-- Under every admissible configuration the LFO, high-pass, soft clipper and chorus meet their constraint
rules. The readings of K2 of R269, K2 of R294, K3 of R300, and K3 and K5 of R304 it rests on, and that the rules
are asked in exact arithmetic, are the model's (log entry 21, DESIGN CHOICE). (R269, R271, R294, R295, R300,
R304, R305, R306) -/
def Obligations.SharedKernelsMeetTheirRules : Prop :=
  ∀ c : Config, c.Valid →
    LfoKernelMeetsRules c.exact ∧ HpfKernelMeetsRules c.exact ∧ SoftClipMeetsRules c.exact ∧
      ChorusKernelMeetsRules c.exact

/-- With silent input the reference chorus line empties in CH_LEN frames, after which its output is exactly (0,
0). (R304, R305, R311) -/
def Obligations.ChorusLineEmpties : Prop :=
  ∀ (c : Config) (s : ChorusState) (en1 en2 : Bool) (n : Nat), c.chorusKernel = .reference →
    s.line.length = c.chLen → s.w < c.chLen → c.chLen ≤ n →
    let r := scanBlock (fun st x => chorusSample c st x en1 en2) s (List.replicate n 0)
    r.1.line = List.replicate c.chLen 0 ∧
    ∀ a b : Bool, (chorusSample c r.1 0 a b).2 = (0, 0)

/-- The cutoff is 7.8 Hz times 2 to the five terms of R243, positive, and rises with envelope depth and value
(Scenario E). (R242, R243, R247) -/
def Obligations.CutoffFormula : Prop :=
  (∀ n : Numerics, n.carrier = .rational →
    (∀ cut res : NUM, baseCutoffOct n cut res = cut * (200/12) + res * 0.5) ∧
    ∀ (base envD envVal lfoD lfo amp kbd bendD bend : NUM) (note : Nat),
    cutoffOct n base envD envVal lfoD lfo amp kbd note bendD bend =
      base + envD * envVal * 12 + lfoD * lfo * amp + kbd * ((note : NUM) - 60) / 12 + bendD * bend * (48/84)) ∧
  ∀ c : Config, c.Valid → c.num.carrier = .rational → (∀ oct : NUM, cutoffHz c.num oct = 7.8 * exp2 c.num oct) ∧
    ∀ (base envD envD' envVal envVal' lfoD lfo amp kbd bendD bend : NUM) (note : Nat),
      0 ≤ envD → envD ≤ envD' → 0 ≤ envVal → envVal ≤ envVal' →
      0 < cutoffHz c.num (cutoffOct c.num base envD envVal lfoD lfo amp kbd note bendD bend) ∧
      cutoffHz c.num (cutoffOct c.num base envD envVal lfoD lfo amp kbd note bendD bend) ≤
        cutoffHz c.num (cutoffOct c.num base envD' envVal' lfoD lfo amp kbd note bendD bend)

/-- exp2 is exact at integers, positive, monotone and doubles over an octave; tanh and the soft clipper are odd,
monotone, in (-1, 1); sin is near the real sine. It is a statement of the model's approximations (log entry 2).
(R9, R300, R301, R325) -/
def Obligations.NumericLaws : Prop :=
  NumericsSound .reference ∧
  ∀ c : Config, c.num = .reference → c.softClip = .reference →
    (∀ x : NUM, -1 < softClip c x ∧ softClip c x < 1) ∧ (∀ x : NUM, softClip c (-x) = -softClip c x) ∧
    softClip c 0 = 0 ∧ ∀ x y : NUM, x ≤ y → softClip c x ≤ softClip c y

/-- The model's exp2 is within a relative error of 2^-56 of the real function 2^x. (R9) -/
def Obligations.Exp2Accuracy : Prop :=
  ∀ x : NUM, |((exp2 .reference x : NUM) : ℝ) - (2 : ℝ) ^ ((x : NUM) : ℝ)| ≤ (2 : ℝ) ^ ((x : NUM) : ℝ) / 2 ^ 56

/-- The model's tanh is within 2^-50 of the real function. (R9) -/
def Obligations.TanhAccuracy : Prop :=
  ∀ x : NUM, |((tanh .reference x : NUM) : ℝ) - Real.tanh ((x : NUM) : ℝ)| ≤ 1 / 2 ^ 50

/-- The model's sin is within 2^-50 of the real function for arguments up to 8 in magnitude. (R9, R273) -/
def Obligations.SinAccuracy : Prop :=
  ∀ x : NUM, |x| ≤ 8 → |((Machine.sin .reference x : NUM) : ℝ) - Real.sin ((x : NUM) : ℝ)| ≤ 1 / 2 ^ 50

/-- Every step keeps the parameter and control registers in their domains and binary32-representable. (R22, R26,
R380, R383) -/
def Obligations.StepKeepsRegistersInDomain : Prop :=
  ∀ s t : State, s.cfg.Valid → s.ParamsInDomain → s.ControlsInRange → step s = .next t →
    t.ParamsInDomain ∧ t.ControlsInRange

/-- Every step keeps each active voice tuned and alive and each inactive one noteless and idle. (R35, R129,
R197) -/
def Obligations.StepKeepsVoicesConsistent : Prop :=
  ∀ s t : State, s.VoicesConsistent → step s = .next t → t.VoicesConsistent

/-- Every step keeps every fan-out target in agreement with its parameter register. (R173, R350, R421) -/
def Obligations.StepKeepsTargetsAgreed : Prop :=
  ∀ s t : State, s.TargetsAgree → step s = .next t → t.TargetsAgree

/-- Every step keeps the LFO Off in Manual mode, and silent at phase 0 while Off. (R263, R274, R276, R277) -/
def Obligations.StepKeepsLfoConsistent : Prop :=
  ∀ s t : State, s.LfoConsistent → step s = .next t → t.LfoConsistent

/-- Every step keeps every number of the render path in the range its rule gives. (R34, R41, R42, R174, R190,
R249, R295, R305) -/
def Obligations.StepKeepsNumbersInRange : Prop :=
  ∀ s t : State, s.cfg.Valid → s.cfg.num.carrier = .rational → s.NumbersInRange → step s = .next t →
    t.NumbersInRange

/-- After hardware reset, at power-on or of a running machine, there is no instance and no output word pending.
That waiting command words survive a reset is the model's choice (log entry 11), as are the reset values of
State.reset the spec leaves open (log entry 7). (R30, R420, R422) -/
def Obligations.ResetState : Prop :=
  (State.reset.instValid = false ∧ State.reset.cmdPort = [] ∧ State.reset.rspPort = [] ∧
    State.reset.pcmPort = [] ∧ State.reset.cfg.Valid ∧ State.reset.ParamsInDomain ∧
    State.reset.ControlsInRange ∧ State.reset.VoicesConsistent ∧ State.reset.TargetsAgree ∧
    State.reset.LfoConsistent ∧ State.reset.NumbersInRange) ∧
  ∀ s : State,
    s.hardwareReset.instValid = false ∧ s.hardwareReset.rspPort = [] ∧ s.hardwareReset.pcmPort = [] ∧
    s.hardwareReset.cfg = s.cfg ∧ s.hardwareReset.cmdPort = s.cmdPort ∧ s.hardwareReset.ParamsInDomain ∧
    s.hardwareReset.ControlsInRange ∧ s.hardwareReset.VoicesConsistent ∧ s.hardwareReset.TargetsAgree ∧
    s.hardwareReset.LfoConsistent ∧ s.hardwareReset.NumbersInRange
end

