-- ==== Sys2Proof/Laws/State.lean ====
section
/-! SUPPORT. One lemma per field per update of the state and of the engine, so that no later proof unfolds a
record update. -/

namespace Sys2Proof.Machine

/-! ## State updates -/


@[simp] theorem State.respond_cfg (s : State) (op status : Word8) (n : Nat) (v : Word32) : (s.respond op status n v).cfg = s.cfg := rfl
@[simp] theorem State.respond_instValid (s : State) (op status : Word8) (n : Nat) (v : Word32) : (s.respond op status n v).instValid = s.instValid := rfl
@[simp] theorem State.respond_eng (s : State) (op status : Word8) (n : Nat) (v : Word32) : (s.respond op status n v).eng = s.eng := rfl
@[simp] theorem State.respond_frameNo (s : State) (op status : Word8) (n : Nat) (v : Word32) : (s.respond op status n v).frameNo = s.frameNo := rfl
@[simp] theorem State.respond_freeNo (s : State) (op status : Word8) (n : Nat) (v : Word32) : (s.respond op status n v).freeNo = s.freeNo := rfl
@[simp] theorem State.respond_cmdPort (s : State) (op status : Word8) (n : Nat) (v : Word32) : (s.respond op status n v).cmdPort = s.cmdPort := rfl
@[simp] theorem State.respond_rspPort (s : State) (op status : Word8) (n : Nat) (v : Word32) : (s.respond op status n v).rspPort = s.rspPort ++ [responseWord op status (BitVec.ofNat 16 n) v] := rfl
@[simp] theorem State.respond_pcmPort (s : State) (op status : Word8) (n : Nat) (v : Word32) : (s.respond op status n v).pcmPort = s.pcmPort := rfl

@[simp] theorem State.ok_cfg (s : State) (op : Word8) : (s.ok op).cfg = s.cfg := rfl
@[simp] theorem State.ok_instValid (s : State) (op : Word8) : (s.ok op).instValid = s.instValid := rfl
@[simp] theorem State.ok_eng (s : State) (op : Word8) : (s.ok op).eng = s.eng := rfl
@[simp] theorem State.ok_frameNo (s : State) (op : Word8) : (s.ok op).frameNo = s.frameNo := rfl
@[simp] theorem State.ok_freeNo (s : State) (op : Word8) : (s.ok op).freeNo = s.freeNo := rfl
@[simp] theorem State.ok_cmdPort (s : State) (op : Word8) : (s.ok op).cmdPort = s.cmdPort := rfl
@[simp] theorem State.ok_rspPort (s : State) (op : Word8) : (s.ok op).rspPort = s.rspPort ++ [responseWord op statusOk 0 0] := rfl
@[simp] theorem State.ok_pcmPort (s : State) (op : Word8) : (s.ok op).pcmPort = s.pcmPort := rfl

@[simp] theorem State.emit_cfg (s : State) (fs : List Word32) : (s.emit fs).cfg = s.cfg := rfl
@[simp] theorem State.emit_instValid (s : State) (fs : List Word32) : (s.emit fs).instValid = s.instValid := rfl
@[simp] theorem State.emit_eng (s : State) (fs : List Word32) : (s.emit fs).eng = s.eng := rfl
@[simp] theorem State.emit_frameNo (s : State) (fs : List Word32) : (s.emit fs).frameNo = s.frameNo := rfl
@[simp] theorem State.emit_freeNo (s : State) (fs : List Word32) : (s.emit fs).freeNo = s.freeNo := rfl
@[simp] theorem State.emit_cmdPort (s : State) (fs : List Word32) : (s.emit fs).cmdPort = s.cmdPort := rfl
@[simp] theorem State.emit_rspPort (s : State) (fs : List Word32) : (s.emit fs).rspPort = s.rspPort := rfl
@[simp] theorem State.emit_pcmPort (s : State) (fs : List Word32) : (s.emit fs).pcmPort = s.pcmPort ++ fs := rfl

@[simp] theorem State.setEng_cfg (s : State) (e : Engine) : (s.setEng e).cfg = s.cfg := rfl
@[simp] theorem State.setEng_instValid (s : State) (e : Engine) : (s.setEng e).instValid = s.instValid := rfl
@[simp] theorem State.setEng_eng (s : State) (e : Engine) : (s.setEng e).eng = e := rfl
@[simp] theorem State.setEng_frameNo (s : State) (e : Engine) : (s.setEng e).frameNo = s.frameNo := rfl
@[simp] theorem State.setEng_freeNo (s : State) (e : Engine) : (s.setEng e).freeNo = s.freeNo := rfl
@[simp] theorem State.setEng_cmdPort (s : State) (e : Engine) : (s.setEng e).cmdPort = s.cmdPort := rfl
@[simp] theorem State.setEng_rspPort (s : State) (e : Engine) : (s.setEng e).rspPort = s.rspPort := rfl
@[simp] theorem State.setEng_pcmPort (s : State) (e : Engine) : (s.setEng e).pcmPort = s.pcmPort := rfl

@[simp] theorem State.release_cfg (s : State) : (s.release).cfg = s.cfg := rfl
@[simp] theorem State.release_instValid (s : State) : (s.release).instValid = false := rfl
@[simp] theorem State.release_eng (s : State) : (s.release).eng = Config.unspecifiedEngine s.freeNo := rfl
@[simp] theorem State.release_frameNo (s : State) : (s.release).frameNo = s.frameNo := rfl
@[simp] theorem State.release_freeNo (s : State) : (s.release).freeNo = s.freeNo + 1 := rfl
@[simp] theorem State.release_cmdPort (s : State) : (s.release).cmdPort = s.cmdPort := rfl
@[simp] theorem State.release_rspPort (s : State) : (s.release).rspPort = s.rspPort := rfl
@[simp] theorem State.release_pcmPort (s : State) : (s.release).pcmPort = s.pcmPort := rfl

@[simp] theorem State.hardwareReset_cfg (s : State) : (s.hardwareReset).cfg = s.cfg := rfl
@[simp] theorem State.hardwareReset_instValid (s : State) : (s.hardwareReset).instValid = false := rfl
@[simp] theorem State.hardwareReset_eng (s : State) : (s.hardwareReset).eng = Config.unspecifiedEngine s.freeNo := rfl
@[simp] theorem State.hardwareReset_frameNo (s : State) : (s.hardwareReset).frameNo = s.frameNo := rfl
@[simp] theorem State.hardwareReset_freeNo (s : State) : (s.hardwareReset).freeNo = s.freeNo + 1 := rfl
@[simp] theorem State.hardwareReset_cmdPort (s : State) : (s.hardwareReset).cmdPort = s.cmdPort := rfl
@[simp] theorem State.hardwareReset_rspPort (s : State) : (s.hardwareReset).rspPort = [] := rfl
@[simp] theorem State.hardwareReset_pcmPort (s : State) : (s.hardwareReset).pcmPort = [] := rfl

@[simp] theorem State.withFetchWord_cfg (s : State) (nbits w : Nat) : (s.withFetchWord nbits w).cfg = s.cfg := rfl
@[simp] theorem State.withFetchWord_instValid (s : State) (nbits w : Nat) : (s.withFetchWord nbits w).instValid = s.instValid := rfl
@[simp] theorem State.withFetchWord_eng (s : State) (nbits w : Nat) : (s.withFetchWord nbits w).eng = s.eng := rfl
@[simp] theorem State.withFetchWord_frameNo (s : State) (nbits w : Nat) : (s.withFetchWord nbits w).frameNo = s.frameNo := rfl
@[simp] theorem State.withFetchWord_freeNo (s : State) (nbits w : Nat) : (s.withFetchWord nbits w).freeNo = s.freeNo := rfl
@[simp] theorem State.withFetchWord_cmdPort (s : State) (nbits w : Nat) : (s.withFetchWord nbits w).cmdPort = BitVec.ofNat 64 (w % 2 ^ nbits) :: s.cmdPort := rfl
@[simp] theorem State.withFetchWord_rspPort (s : State) (nbits w : Nat) : (s.withFetchWord nbits w).rspPort = s.rspPort := rfl
@[simp] theorem State.withFetchWord_pcmPort (s : State) (nbits w : Nat) : (s.withFetchWord nbits w).pcmPort = s.pcmPort := rfl

/-! ## Engine updates -/

@[simp] theorem Engine.setParam_params (e : Engine) (i : Fin 26) (v : NUM) : (e.setParam i v).params = e.params.set i v := rfl
@[simp] theorem Engine.setParam_volume (e : Engine) (i : Fin 26) (v : NUM) : (e.setParam i v).volume = e.volume := rfl
@[simp] theorem Engine.setParam_octave (e : Engine) (i : Fin 26) (v : NUM) : (e.setParam i v).octave = e.octave := rfl
@[simp] theorem Engine.setParam_bendSemi (e : Engine) (i : Fin 26) (v : NUM) : (e.setParam i v).bendSemi = e.bendSemi := rfl
@[simp] theorem Engine.setParam_voices (e : Engine) (i : Fin 26) (v : NUM) : (e.setParam i v).voices = e.voices := rfl
@[simp] theorem Engine.setParam_sm (e : Engine) (i : Fin 26) (v : NUM) : (e.setParam i v).sm = e.sm := rfl
@[simp] theorem Engine.setParam_lfo (e : Engine) (i : Fin 26) (v : NUM) : (e.setParam i v).lfo = e.lfo := rfl
@[simp] theorem Engine.setParam_hp (e : Engine) (i : Fin 26) (v : NUM) : (e.setParam i v).hp = e.hp := rfl
@[simp] theorem Engine.setParam_chorus (e : Engine) (i : Fin 26) (v : NUM) : (e.setParam i v).chorus = e.chorus := rfl

@[simp] theorem Engine.mapVoices_params (e : Engine) (f : Voice → Voice) : (e.mapVoices f).params = e.params := rfl
@[simp] theorem Engine.mapVoices_volume (e : Engine) (f : Voice → Voice) : (e.mapVoices f).volume = e.volume := rfl
@[simp] theorem Engine.mapVoices_octave (e : Engine) (f : Voice → Voice) : (e.mapVoices f).octave = e.octave := rfl
@[simp] theorem Engine.mapVoices_bendSemi (e : Engine) (f : Voice → Voice) : (e.mapVoices f).bendSemi = e.bendSemi := rfl
@[simp] theorem Engine.mapVoices_voices (e : Engine) (f : Voice → Voice) : (e.mapVoices f).voices = e.voices.map f := rfl
@[simp] theorem Engine.mapVoices_sm (e : Engine) (f : Voice → Voice) : (e.mapVoices f).sm = e.sm := rfl
@[simp] theorem Engine.mapVoices_lfo (e : Engine) (f : Voice → Voice) : (e.mapVoices f).lfo = e.lfo := rfl
@[simp] theorem Engine.mapVoices_hp (e : Engine) (f : Voice → Voice) : (e.mapVoices f).hp = e.hp := rfl
@[simp] theorem Engine.mapVoices_chorus (e : Engine) (f : Voice → Voice) : (e.mapVoices f).chorus = e.chorus := rfl

@[simp] theorem Engine.mapOsc_params (e : Engine) (f : OscState → OscState) : (e.mapOsc f).params = e.params := rfl
@[simp] theorem Engine.mapOsc_volume (e : Engine) (f : OscState → OscState) : (e.mapOsc f).volume = e.volume := rfl
@[simp] theorem Engine.mapOsc_octave (e : Engine) (f : OscState → OscState) : (e.mapOsc f).octave = e.octave := rfl
@[simp] theorem Engine.mapOsc_bendSemi (e : Engine) (f : OscState → OscState) : (e.mapOsc f).bendSemi = e.bendSemi := rfl
@[simp] theorem Engine.mapOsc_voices (e : Engine) (f : OscState → OscState) : (e.mapOsc f).voices = e.voices.map fun u => { u with osc := f u.osc } := rfl
@[simp] theorem Engine.mapOsc_sm (e : Engine) (f : OscState → OscState) : (e.mapOsc f).sm = e.sm := rfl
@[simp] theorem Engine.mapOsc_lfo (e : Engine) (f : OscState → OscState) : (e.mapOsc f).lfo = e.lfo := rfl
@[simp] theorem Engine.mapOsc_hp (e : Engine) (f : OscState → OscState) : (e.mapOsc f).hp = e.hp := rfl
@[simp] theorem Engine.mapOsc_chorus (e : Engine) (f : OscState → OscState) : (e.mapOsc f).chorus = e.chorus := rfl

@[simp] theorem Engine.mapSm_params (e : Engine) (f : SharedSm → SharedSm) : (e.mapSm f).params = e.params := rfl
@[simp] theorem Engine.mapSm_volume (e : Engine) (f : SharedSm → SharedSm) : (e.mapSm f).volume = e.volume := rfl
@[simp] theorem Engine.mapSm_octave (e : Engine) (f : SharedSm → SharedSm) : (e.mapSm f).octave = e.octave := rfl
@[simp] theorem Engine.mapSm_bendSemi (e : Engine) (f : SharedSm → SharedSm) : (e.mapSm f).bendSemi = e.bendSemi := rfl
@[simp] theorem Engine.mapSm_voices (e : Engine) (f : SharedSm → SharedSm) : (e.mapSm f).voices = e.voices := rfl
@[simp] theorem Engine.mapSm_sm (e : Engine) (f : SharedSm → SharedSm) : (e.mapSm f).sm = f e.sm := rfl
@[simp] theorem Engine.mapSm_lfo (e : Engine) (f : SharedSm → SharedSm) : (e.mapSm f).lfo = e.lfo := rfl
@[simp] theorem Engine.mapSm_hp (e : Engine) (f : SharedSm → SharedSm) : (e.mapSm f).hp = e.hp := rfl
@[simp] theorem Engine.mapSm_chorus (e : Engine) (f : SharedSm → SharedSm) : (e.mapSm f).chorus = e.chorus := rfl

/-! ## Smoother updates (R171 to R173) -/

@[simp] theorem Smoother.advance_y (c : Config) (m : Smoother) : (m.advance c).y = onePole c.num m.y c.smoothCoef m.t := rfl
@[simp] theorem Smoother.advance_t (c : Config) (m : Smoother) : (m.advance c).t = m.t := rfl

@[simp] theorem Smoother.snap_y (m : Smoother) : (m.snap).y = m.t := rfl
@[simp] theorem Smoother.snap_t (m : Smoother) : (m.snap).t = m.t := rfl

@[simp] theorem Smoother.setTarget_y (m : Smoother) (v : NUM) : (m.setTarget v).y = m.y := rfl
@[simp] theorem Smoother.setTarget_t (m : Smoother) (v : NUM) : (m.setTarget v).t = v := rfl

@[simp] theorem Smoother.atRest_y (v : NUM) : (Smoother.atRest v).y = v := rfl
@[simp] theorem Smoother.atRest_t (v : NUM) : (Smoother.atRest v).t = v := rfl

/-! ## Voice updates -/

@[simp] theorem voiceDeactivate_active (v : Voice) : (voiceDeactivate v).active = false := rfl
@[simp] theorem voiceDeactivate_note (v : Voice) : (voiceDeactivate v).note = none := rfl
@[simp] theorem voiceDeactivate_freq (v : Voice) : (voiceDeactivate v).freq = v.freq := rfl
@[simp] theorem voiceDeactivate_vel (v : Voice) : (voiceDeactivate v).vel = v.vel := rfl
@[simp] theorem voiceDeactivate_bendMul (v : Voice) : (voiceDeactivate v).bendMul = v.bendMul := rfl
@[simp] theorem voiceDeactivate_vcaMode (v : Voice) : (voiceDeactivate v).vcaMode = v.vcaMode := rfl
@[simp] theorem voiceDeactivate_pwmSrc (v : Voice) : (voiceDeactivate v).pwmSrc = v.pwmSrc := rfl
@[simp] theorem voiceDeactivate_osc (v : Voice) : (voiceDeactivate v).osc = v.osc := rfl
@[simp] theorem voiceDeactivate_vcf (v : Voice) : (voiceDeactivate v).vcf = v.vcf := rfl
@[simp] theorem voiceDeactivate_envA (v : Voice) : (voiceDeactivate v).envA = v.envA := rfl
@[simp] theorem voiceDeactivate_envG (v : Voice) : (voiceDeactivate v).envG = v.envG := rfl
@[simp] theorem voiceDeactivate_pwmSm (v : Voice) : (voiceDeactivate v).pwmSm = v.pwmSm := rfl

@[simp] theorem releaseVoice_active (v : Voice) : (releaseVoice v).active = v.active := rfl
@[simp] theorem releaseVoice_note (v : Voice) : (releaseVoice v).note = v.note := rfl
@[simp] theorem releaseVoice_freq (v : Voice) : (releaseVoice v).freq = v.freq := rfl
@[simp] theorem releaseVoice_vel (v : Voice) : (releaseVoice v).vel = v.vel := rfl
@[simp] theorem releaseVoice_bendMul (v : Voice) : (releaseVoice v).bendMul = v.bendMul := rfl
@[simp] theorem releaseVoice_vcaMode (v : Voice) : (releaseVoice v).vcaMode = v.vcaMode := rfl
@[simp] theorem releaseVoice_pwmSrc (v : Voice) : (releaseVoice v).pwmSrc = v.pwmSrc := rfl
@[simp] theorem releaseVoice_osc (v : Voice) : (releaseVoice v).osc = v.osc := rfl
@[simp] theorem releaseVoice_vcf (v : Voice) : (releaseVoice v).vcf = v.vcf := rfl
@[simp] theorem releaseVoice_envA (v : Voice) : (releaseVoice v).envA = envNoteOff v.envA := rfl
@[simp] theorem releaseVoice_envG (v : Voice) : (releaseVoice v).envG = envNoteOff v.envG := rfl
@[simp] theorem releaseVoice_pwmSm (v : Voice) : (releaseVoice v).pwmSm = v.pwmSm := rfl

@[simp] theorem strikeVoice_active (c : Config) (p : Vector NUM 26) (b : NUM) (n : Nat) (x : NUM) (v : Voice) : (strikeVoice c p b n x v).active = true := rfl
@[simp] theorem strikeVoice_note (c : Config) (p : Vector NUM 26) (b : NUM) (n : Nat) (x : NUM) (v : Voice) : (strikeVoice c p b n x v).note = some n := rfl
@[simp] theorem strikeVoice_freq (c : Config) (p : Vector NUM 26) (b : NUM) (n : Nat) (x : NUM) (v : Voice) : (strikeVoice c p b n x v).freq = tunedFreq c.num n b := rfl
@[simp] theorem strikeVoice_vel (c : Config) (p : Vector NUM 26) (b : NUM) (n : Nat) (x : NUM) (v : Voice) : (strikeVoice c p b n x v).vel = x := rfl
@[simp] theorem strikeVoice_bendMul (c : Config) (p : Vector NUM 26) (b : NUM) (n : Nat) (x : NUM) (v : Voice) : (strikeVoice c p b n x v).bendMul = bendMulOf c.num b := rfl
@[simp] theorem strikeVoice_vcaMode (c : Config) (p : Vector NUM 26) (b : NUM) (n : Nat) (x : NUM) (v : Voice) : (strikeVoice c p b n x v).vcaMode = vcaShared p := rfl
@[simp] theorem strikeVoice_pwmSrc (c : Config) (p : Vector NUM 26) (b : NUM) (n : Nat) (x : NUM) (v : Voice) : (strikeVoice c p b n x v).pwmSrc = v.pwmSrc := rfl
@[simp] theorem strikeVoice_osc (c : Config) (p : Vector NUM 26) (b : NUM) (n : Nat) (x : NUM) (v : Voice) : (strikeVoice c p b n x v).osc = oscSnap v.osc := rfl
@[simp] theorem strikeVoice_vcf (c : Config) (p : Vector NUM 26) (b : NUM) (n : Nat) (x : NUM) (v : Voice) : (strikeVoice c p b n x v).vcf = v.vcf := rfl
@[simp] theorem strikeVoice_envA (c : Config) (p : Vector NUM 26) (b : NUM) (n : Nat) (x : NUM) (v : Voice) : (strikeVoice c p b n x v).envA = envNoteOn c v.envA := rfl
@[simp] theorem strikeVoice_envG (c : Config) (p : Vector NUM 26) (b : NUM) (n : Nat) (x : NUM) (v : Voice) : (strikeVoice c p b n x v).envG = envNoteOn c v.envG := rfl
@[simp] theorem strikeVoice_pwmSm (c : Config) (p : Vector NUM 26) (b : NUM) (n : Nat) (x : NUM) (v : Voice) : (strikeVoice c p b n x v).pwmSm = v.pwmSm := rfl

/-! ## The port of commands -/

theorem State.takeCommand_nil {s : State} (h : s.cmdPort = []) : s.takeCommand = none := by
  simp [State.takeCommand, h]

theorem State.takeCommand_cons {s : State} {w : Word64} {ws : List Word64} (h : s.cmdPort = w :: ws) :
    s.takeCommand = some (w, { s with cmdPort := ws }) := by
  simp [State.takeCommand, h]

end Sys2Proof.Machine
end

