-- ==== Sys2Proof/Laws/Ops.lean ====
section
/-! SUPPORT. For each shared operation, what it can do, said once: the conditions of the commands, the operands,
the smoother, and a unit run over a block. -/

namespace Sys2Proof.Machine

/-! ## Conditions (R110, R401) -/

theorem withInstance_of_valid {op : Word8} {s : State} {body : State → State} (h : s.instValid = true) :
    withInstance op s body = .next (body s) := by
  simp [withInstance, h]

theorem withInstance_of_invalid {op : Word8} {s : State} {body : State → State} (h : s.instValid = false) :
    withInstance op s body = .next (s.respond op statusNoinst 0 0) := by
  simp [withInstance, h]

/-- Everything the instance check can answer. -/
theorem withInstance_cases {op : Word8} {s t : State} {body : State → State}
    (h : withInstance op s body = .next t) :
    (s.instValid = true ∧ t = body s) ∨ (s.instValid = false ∧ t = s.respond op statusNoinst 0 0) := by
  unfold withInstance at h
  split at h <;> simp_all

theorem withNum_of_some {op : Word8} {v : Word32} {lo hi q : NUM} {s : State} {body : NUM → State}
    (h : numOperand v lo hi = some q) : withNum op v lo hi s body = body q := by
  simp [withNum, h]

theorem withNum_of_none {op : Word8} {v : Word32} {lo hi : NUM} {s : State} {body : NUM → State}
    (h : numOperand v lo hi = none) : withNum op v lo hi s body = s.respond op statusBadval 0 0 := by
  simp [withNum, h]

theorem paramWith_of_some {i : Fin 26} {effect : ParamEffect} {v : Word32} {s : State} {x : NUM}
    (hs : s.instValid = true) (h : numOperand v 0 (paramHi i) = some x) :
    paramWith i effect v s = .next ((s.setEng (paramEngine s.cfg i effect x s.eng)).ok opParam) := by
  rw [paramWith, withInstance_of_valid hs, withNum_of_some h]

/-- Everything a `PARAM` sub-command can answer. -/
theorem paramWith_cases {i : Fin 26} {effect : ParamEffect} {v : Word32} {s t : State}
    (h : paramWith i effect v s = .next t) :
    (s.instValid = false ∧ t = s.respond opParam statusNoinst 0 0) ∨
    (s.instValid = true ∧ numOperand v 0 (paramHi i) = none ∧ t = s.respond opParam statusBadval 0 0) ∨
    (s.instValid = true ∧ ∃ x, numOperand v 0 (paramHi i) = some x ∧
      t = (s.setEng (paramEngine s.cfg i effect x s.eng)).ok opParam) := by
  rcases withInstance_cases h with ⟨hs, ht⟩ | ⟨hs, ht⟩
  · cases hq : numOperand v 0 (paramHi i) with
    | none => exact .inr (.inl ⟨hs, rfl, by rw [ht, withNum_of_none hq]⟩)
    | some x => exact .inr (.inr ⟨hs, x, rfl, by rw [ht, withNum_of_some hq]⟩)
  · exact .inl ⟨hs, ht⟩

/-! ## The operations of NUM (R9) -/

theorem Numerics.toCarrier_of_rational {n : Numerics} (h : n.carrier = .rational) (q : NUM) :
    n.toCarrier q = .fin q := by
  simp [Sys2Proof.Numerics.toCarrier, h]

theorem Numerics.round_of_rational {n : Numerics} (h : n.carrier = .rational) (q : NUM) : n.round q = q := by
  rw [Sys2Proof.Numerics.round, Numerics.toCarrier_of_rational h]

/-- In exact arithmetic a product of numbers is a number. -/
theorem Numerics.mulWide_of_rational {n : Numerics} (h : n.carrier = .rational) (a b : NUM) :
    n.mulWide (.fin a) (.fin b) = .fin (a * b) := by
  simp only [Sys2Proof.Numerics.mulWide, Sys2Proof.Numerics.operand, Numerics.toCarrier_of_rational h]

theorem Numerics.add_of_rational {n : Numerics} (h : n.carrier = .rational) (a b : NUM) : n.add a b = a + b := by
  simp only [Sys2Proof.Numerics.add, Numerics.round_of_rational h]

theorem Numerics.sub_of_rational {n : Numerics} (h : n.carrier = .rational) (a b : NUM) : n.sub a b = a - b := by
  simp only [Sys2Proof.Numerics.sub, Numerics.round_of_rational h]

theorem Numerics.mul_of_rational {n : Numerics} (h : n.carrier = .rational) (a b : NUM) : n.mul a b = a * b := by
  simp only [Sys2Proof.Numerics.mul, Numerics.round_of_rational h]

theorem Numerics.div_of_rational {n : Numerics} (h : n.carrier = .rational) (a b : NUM) : n.div a b = a / b := by
  simp only [Sys2Proof.Numerics.div, Numerics.round_of_rational h]

theorem Numerics.sum_of_rational {n : Numerics} (h : n.carrier = .rational) (as : List NUM) : n.sum as = as.sum := by
  have e : n.add = (· + ·) := by funext a b; exact Numerics.add_of_rational h a b
  cases as with
  | nil => rfl
  | cons a as => rw [Sys2Proof.Numerics.sum, e, List.sum_eq_foldl]; simp

theorem Numerics.prod_of_rational {n : Numerics} (h : n.carrier = .rational) (as : List NUM) :
    n.prod as = as.prod := by
  have e : n.mul = (· * ·) := by funext a b; exact Numerics.mul_of_rational h a b
  cases as with
  | nil => rfl
  | cons a as => rw [Sys2Proof.Numerics.prod, e, List.prod_eq_foldl]; simp

/-- Every carrier holds 0. -/
@[simp] theorem Numerics.toCarrier_zero (n : Numerics) : n.toCarrier 0 = .fin 0 := by
  have h : roundEven 0 = 0 := by decide +kernel
  unfold Sys2Proof.Numerics.toCarrier
  split <;> simp [h]

@[simp] theorem Numerics.round_zero (n : Numerics) : n.round 0 = 0 := by simp [Sys2Proof.Numerics.round]

/-- A product with a NaN is a NaN. -/
theorem Numerics.mulWide_nan (n : Numerics) (b : F32) : n.mulWide .nan b = .nan := by
  simp [Sys2Proof.Numerics.mulWide, Sys2Proof.Numerics.operand, F32.sign]

/-- A one-pole low-pass in exact arithmetic. -/
theorem onePole_of_rational {n : Numerics} (h : n.carrier = .rational) (y a x : NUM) :
    onePole n y a x = y + a * (x - y) := by
  rw [onePole, Numerics.add_of_rational h, Numerics.mul_of_rational h, Numerics.sub_of_rational h]

/-- A block with exact arithmetic is its own exact block. -/
theorem Config.exact_of_rational {c : Config} (h : c.num.carrier = .rational) : c.exact = c := by
  obtain ⟨num⟩ := c
  obtain ⟨carrier⟩ := num
  cases h
  rfl

@[simp] theorem Config.exact_carrier (c : Config) : c.exact.num.carrier = .rational := rfl

/-! ## Operands (R11, R88) -/

theorem clamp_mem {v lo hi : NUM} (h : lo ≤ hi) : lo ≤ clamp v lo hi ∧ clamp v lo hi ≤ hi := by
  unfold clamp
  split
  · exact ⟨le_refl _, h⟩
  · split
    · exact ⟨h, le_refl _⟩
    · constructor <;> linarith

theorem clamp_of_mem {v lo hi : NUM} (h1 : lo ≤ v) (h2 : v ≤ hi) : clamp v lo hi = v := by
  simp [clamp, not_lt.mpr h1, not_lt.mpr h2]

theorem clampInt_mem {v lo hi : Int} (h : lo ≤ hi) : lo ≤ clampInt v lo hi ∧ clampInt v lo hi ≤ hi := by
  unfold clampInt
  split
  · exact ⟨le_refl _, h⟩
  · split <;> omega

/-- A `NUM` operand that has a value is inside the bounds it was clamped to. -/
theorem numOperand_mem {v : Word32} {lo hi q : NUM} (h : lo ≤ hi) (hq : numOperand v lo hi = some q) :
    lo ≤ q ∧ q ≤ hi := by
  unfold numOperand at hq
  split at hq
  · exact Option.some.inj hq ▸ clamp_mem h
  · exact Option.some.inj hq ▸ ⟨h, le_refl _⟩
  · exact Option.some.inj hq ▸ ⟨le_refl _, h⟩
  · cases hq

theorem paramHi_nonneg (i : Nat) : 0 ≤ paramHi i := by
  unfold paramHi
  split <;> norm_num

theorem transposedNote_le (o : Int) (a : Nat) : transposedNote o a ≤ 127 := by
  have h := clampInt_mem (v := a + Config.semitones * o) (lo := 0) (hi := Config.noteMax) (by decide)
  have h127 : Config.noteMax = 127 := rfl
  unfold transposedNote
  omega

theorem frac_mem {n : Numerics} (h : n.carrier = .rational) (v : NUM) : 0 ≤ frac n v ∧ frac n v < 1 := by
  have h1 : ((floor v : Int) : NUM) ≤ v := Int.floor_le v
  have h2 : v < ((floor v : Int) : NUM) + 1 := Int.lt_floor_add_one v
  rw [frac, Numerics.sub_of_rational h]
  constructor <;> linarith

theorem drawValue_mem (r : NUM) : -1 ≤ drawValue r ∧ drawValue r ≤ 1 := clamp_mem (by norm_num)

/-! ## The smoother (R171, R174) -/

/-- An advance with a coefficient in [0, 1] stays in any interval that holds the value and the target. -/
theorem Smoother.advance_mem {c : Config} {m : Smoother} {lo hi : NUM} (hn : c.num.carrier = .rational) (h0 : 0 ≤ c.smoothCoef)
    (h1 : c.smoothCoef ≤ 1) (hy : lo ≤ m.y ∧ m.y ≤ hi) (ht : lo ≤ m.t ∧ m.t ≤ hi) :
    lo ≤ (m.advance c).y ∧ (m.advance c).y ≤ hi := by
  have e : (m.advance c).y = (1 - c.smoothCoef) * m.y + c.smoothCoef * m.t := by
    rw [Smoother.advance_y, onePole_of_rational hn]; ring
  rw [e]
  constructor <;> nlinarith [mul_nonneg (sub_nonneg.mpr h1) (sub_nonneg.mpr hy.1),
    mul_nonneg (sub_nonneg.mpr h1) (sub_nonneg.mpr hy.2), mul_nonneg h0 (sub_nonneg.mpr ht.1),
    mul_nonneg h0 (sub_nonneg.mpr ht.2)]

/-! ## Units run over a block -/

variable {σ α β : Type} (f : σ → α → σ × β)

@[simp] theorem scanBlock_nil (s : σ) : scanBlock f s [] = (s, []) := rfl

@[simp] theorem scanBlock_cons (s : σ) (a : α) (as : List α) :
    scanBlock f s (a :: as) = ((scanBlock f (f s a).1 as).1, (f s a).2 :: (scanBlock f (f s a).1 as).2) := rfl

/-- A unit yields one output per input. -/
@[simp] theorem scanBlock_length (s : σ) (as : List α) : (scanBlock f s as).2.length = as.length := by
  induction as generalizing s with
  | nil => rfl
  | cons a as ih => simp [ih]

/-- A block in two parts: the second part starts from the state the first one left. -/
theorem scanBlock_append (s : σ) (as bs : List α) :
    scanBlock f s (as ++ bs) =
      ((scanBlock f (scanBlock f s as).1 bs).1, (scanBlock f s as).2 ++ (scanBlock f (scanBlock f s as).1 bs).2) := by
  induction as generalizing s with
  | nil => simp
  | cons a as ih => simp [ih]

/-- What every sample keeps, the block keeps. -/
theorem scanBlock_induct {P : σ → Prop} (step : ∀ s a, P s → P (f s a).1) (s : σ) (as : List α) (h : P s) :
    P (scanBlock f s as).1 := by
  induction as generalizing s with
  | nil => exact h
  | cons a as ih => exact ih _ (step s a h)

/-! ## The chorus memory: the one indexed store (R42, R305) -/

/-- The delay line keeps its length. -/
@[simp] theorem chorusAdvance_length (c : Config) (s : ChorusState) (x : NUM) (a b : Bool) :
    (chorusAdvance c s x a b).line.length = s.line.length := by
  unfold chorusAdvance
  cases c.chorusKernel <;> simp

/-- The cell written reads as the input. -/
theorem chorusAdvance_read (c : Config) (s : ChorusState) (x : NUM) (a b : Bool) (hk : c.chorusKernel = .reference)
    (h : s.w < s.line.length) : (chorusAdvance c s x a b).line[s.w]? = some x := by
  simp [chorusAdvance, hk, h]

/-- Every other cell is left alone. -/
theorem chorusAdvance_frame (c : Config) (s : ChorusState) (x : NUM) (a b : Bool) (j : Nat) (h : j ≠ s.w) :
    (chorusAdvance c s x a b).line[j]? = s.line[j]? := by
  unfold chorusAdvance
  cases c.chorusKernel <;> simp [List.getElem?_set_ne h.symm]

/-! ## The kernels under the reference choice, and what holds whatever the kernel (R6) -/

theorem clampUnit_mem (x : NUM) : -1 ≤ clampUnit x ∧ clampUnit x ≤ 1 := clamp_mem (by norm_num)

theorem clampPart_mem (x : NUM) : 0 ≤ clampPart x ∧ clampPart x ≤ 1 := clamp_mem (by norm_num)

/-- A program's segment answers a level in [0, 1]. -/
theorem runSegment_level_mem (n : Numerics) (g : EnvSegment) (cfg : EnvCfg) (e : EnvState) :
    0 ≤ (runSegment n g cfg e).1 ∧ (runSegment n g cfg e).1 ≤ 1 := clampPart_mem _

/-- The levels of an oscillator are advanced as R216 says, whatever the kernel. -/
theorem oscAdvance_levels (c : Config) (o : OscState) (f pwm d : NUM) :
    (oscAdvance c o f pwm d).saw = o.saw.advance c ∧ (oscAdvance c o f pwm d).pulse = o.pulse.advance c ∧
      (oscAdvance c o f pwm d).sub = o.sub.advance c ∧ (oscAdvance c o f pwm d).noise = o.noise.advance c := by
  unfold oscAdvance
  cases c.oscKernel <;> exact ⟨rfl, rfl, rfl, rfl⟩

/-- The draw reaches nothing of an oscillator but the private state of the noise (R220 K4). -/
theorem oscAdvance_draw (c : Config) (o : OscState) (f pwm d d' : NUM) :
    { oscAdvance c o f pwm d with noiseAux := [] } = { oscAdvance c o f pwm d' with noiseAux := [] } := by
  unfold oscAdvance
  cases c.oscKernel <;> rfl

/-- With the noise level at 0 the draw does not matter (R220 K4). -/
theorem oscMix_noiseless {c : Config} {o : OscState} (h : o.noise.y = 0) (pwm d d' : NUM) :
    oscMix c o pwm d = oscMix c o pwm d' := by
  have h0 (x : NUM) : c.num.mul 0 x = 0 := by simp [Sys2Proof.Numerics.mul]
  unfold oscMix oscWaves
  cases c.oscKernel <;> simp [h, h0]

/-- The reference mapping of the PWM sources (R223). -/
theorem pwmSource_reference {c : Config} (hn : c.num.carrier = .rational) (h : c.pwmSource = .reference) (src : PwmSrc)
    (lfo envVal ampVal : NUM) :
    pwmSource c src lfo envVal ampVal =
      match src with
      | .manual => 1
      | .lfoModulated => 1/2 * (1 + lfo)
      | .envelopeModulated => envVal := by
  cases src <;>
    simp [pwmSource, h, PwmSource.reference, evalExpr, Numerics.mul_of_rational hn, Numerics.add_of_rational hn]

/-- The reference voice filter returns its fourth memory (R249). -/
theorem vcfOut_reference {c : Config} (h : c.vcfKernel = .reference) (s : VcfState) (x fc r : NUM) :
    vcfOut c s x fc r = s.y4 := by simp [vcfOut, h]

/-- The reference high-pass returns the input less its memory (R295). -/
theorem hpfOut_reference {c : Config} (h : c.hpfKernel = .reference) (p : Vector NUM 26) (s : HpfState) (x : NUM) :
    hpfOut c p s x = c.num.sub x s.lp := by simp [hpfOut, h]

/-- The reference soft clipper (R300). -/
theorem softClip_reference {c : Config} (h : c.softClip = .reference) (x : NUM) :
    softClip c x = tanh c.num (c.num.mul 3 x) := by simp [softClip, h]

/-- A sample of the chorus leaves the advanced memory. -/
theorem chorusSample_state (c : Config) (s : ChorusState) (x : NUM) (a b : Bool) :
    (chorusSample c s x a b).1 = chorusAdvance c s x a b := by
  unfold chorusSample
  cases c.chorusKernel <;> rfl

/-- With neither stage enabled both channels carry the input, whatever the kernel (R306). -/
theorem chorusSample_bypass (c : Config) (s : ChorusState) (x : NUM) : (chorusSample c s x false false).2 = (x, x) := by
  unfold chorusSample
  cases c.chorusKernel <;> rfl

/-- Idle is never left by an advance, and its level is 0, whatever the kernel (R190 K2, K3). -/
theorem envAdvance_idle {c : Config} {cfg : EnvCfg} {e : EnvState} (h : e.stage = .idle) :
    envAdvance c cfg e = { e with level := 0, aux := restingAux c EnvProgram.idle cfg e } := by
  unfold envAdvance
  split <;> simp_all

/-- In stage Off the LFO returns 0 and nothing moves, whatever the kernel (R269 K1, R274). -/
theorem lfoAdvance_off {c : Config} {p : Vector NUM 26} {d : NUM} {l : LfoState} (h : l.stage = .off) :
    lfoAdvance c p d l = { l with out := 0 } := by
  unfold lfoAdvance
  split <;> simp_all

/-- A running sample of the LFO: count, move the waveform, ramp it (R271). -/
theorem lfoAdvance_running {c : Config} {p : Vector NUM 26} {d : NUM} {l : LfoState} (h : l.stage ≠ .off) :
    lfoAdvance c p d l =
      { (lfoWaveform c p d (lfoCount c p l)).1 with
        out := c.num.mul (lfoWaveform c p d (lfoCount c p l)).2 (lfoGain c (lfoCount c p l).ramp) } := by
  have e : (lfoWaveform c p d (lfoCount c p l)).1.ramp = (lfoCount c p l).ramp := by
    unfold lfoWaveform
    cases c.lfoKernel <;> rfl
  unfold lfoAdvance
  split <;> simp_all

/-- The waveform leaves delay, ramp-in and gate alone. -/
theorem lfoWaveform_frame (c : Config) (p : Vector NUM 26) (d : NUM) (l : LfoState) :
    (lfoWaveform c p d l).1.stage = l.stage ∧ (lfoWaveform c p d l).1.cnt = l.cnt ∧
      (lfoWaveform c p d l).1.ramp = l.ramp ∧ (lfoWaveform c p d l).1.gate = l.gate := by
  unfold lfoWaveform
  cases c.lfoKernel <;> exact ⟨rfl, rfl, rfl, rfl⟩

/-- An advance of the LFO never turns it off. -/
theorem lfoAdvance_stage {c : Config} {p : Vector NUM 26} {d : NUM} {l : LfoState} :
    (lfoAdvance c p d l).stage = .off ↔ l.stage = .off := by
  cases h : l.stage with
  | off => simp [lfoAdvance_off h, h]
  | delay | attack | run =>
    rw [lfoAdvance_running (by rw [h]; decide)]
    simp only [(lfoWaveform_frame c p d (lfoCount c p l)).1]
    simp only [lfoCount, lfoAttackStep, lfoDelayStep, h]
    repeat' split
    all_goals simp_all

/-! ## The PCM conversion (R337) -/

/-- In exact arithmetic a sample is scaled by a plain product. -/
theorem pcmScaled_of_rational {c : Config} (h : c.num.carrier = .rational) (volume x : NUM) :
    pcmScaled c volume (.fin x) = .fin (x * c.masterGain * volume * Config.pcmScale) := by
  simp only [pcmScaled, Numerics.mulWide_of_rational h]

/-- A NaN gives the sample 0, in every NUM. -/
theorem pcmConvert_nan (c : Config) (volume : NUM) : pcmConvert c volume .nan = 0 := by
  simp only [pcmConvert, pcmScaled, Numerics.mulWide_nan]

/-! ## What a rendered frame leaves of a voice (R332, R424) -/

theorem voiceFrame_active (c : Config) (p : Vector NUM 26) (b : NUM) (d : Nat → NUM) (v : Voice) (m : ModFrame) :
    (voiceFrame c p b d v m).1.active = v.active := rfl

theorem voiceFrame_note (c : Config) (p : Vector NUM 26) (b : NUM) (d : Nat → NUM) (v : Voice) (m : ModFrame) :
    (voiceFrame c p b d v m).1.note = v.note := rfl

theorem voiceFrame_freq (c : Config) (p : Vector NUM 26) (b : NUM) (d : Nat → NUM) (v : Voice) (m : ModFrame) :
    (voiceFrame c p b d v m).1.freq = v.freq := rfl

theorem voiceFrame_bendMul (c : Config) (p : Vector NUM 26) (b : NUM) (d : Nat → NUM) (v : Voice) (m : ModFrame) :
    (voiceFrame c p b d v m).1.bendMul = v.bendMul := rfl

theorem voiceFrame_vel (c : Config) (p : Vector NUM 26) (b : NUM) (d : Nat → NUM) (v : Voice) (m : ModFrame) :
    (voiceFrame c p b d v m).1.vel = v.vel := rfl

theorem voiceFrame_vcaMode (c : Config) (p : Vector NUM 26) (b : NUM) (d : Nat → NUM) (v : Voice) (m : ModFrame) :
    (voiceFrame c p b d v m).1.vcaMode = v.vcaMode := rfl

theorem voiceFrame_pwmSrc (c : Config) (p : Vector NUM 26) (b : NUM) (d : Nat → NUM) (v : Voice) (m : ModFrame) :
    (voiceFrame c p b d v m).1.pwmSrc = v.pwmSrc := rfl

/-- The deactivation check, said once. -/
theorem deactivationCheck_cases (c : Config) (v : Voice) :
    (envActive (currentEnv v) = true ∧ deactivationCheck c v = v) ∨
    (envActive (currentEnv v) = false ∧
      deactivationCheck c v = { v with active := false, note := none, envA := envShutdown c, envG := envShutdown c,
                                       osc := oscReset c v.osc, vcf := vcfReset c }) := by
  unfold deactivationCheck
  cases h : envActive (currentEnv v) with
  | true => exact .inl ⟨rfl, rfl⟩
  | false => exact .inr ⟨rfl, rfl⟩

/-! ## What `RENDER` leaves alone, whatever the draws (R341) -/

theorem renderFrames_cfg (d : Draws) (n : Nat) (s : State) : (renderFrames d n s).cfg = s.cfg := by
  simp [renderFrames, renderBlock]

theorem renderFrames_instValid (d : Draws) (n : Nat) (s : State) : (renderFrames d n s).instValid = s.instValid := by
  simp [renderFrames, renderBlock]

theorem renderFrames_params (d : Draws) (n : Nat) (s : State) :
    (renderFrames d n s).eng.params = s.eng.params := by
  simp [renderFrames, renderBlock]

theorem renderFrames_bendSemi (d : Draws) (n : Nat) (s : State) :
    (renderFrames d n s).eng.bendSemi = s.eng.bendSemi := by
  simp [renderFrames, renderBlock]

theorem renderFrames_rspPort (d : Draws) (n : Nat) (s : State) : (renderFrames d n s).rspPort = s.rspPort := by
  simp [renderFrames, renderBlock]

end Sys2Proof.Machine
end

