-- ==== Sys2Proof/Laws/PerInstr.lean ====
section
/-! SUPPORT. The per-instruction family `TableRow`: the word of every command matches the row of the opcode
table that names it (R83), one lemma per constructor. -/

namespace Sys2Proof.Laws

/-- The encoded word of a command, masked as its row says, is the row's match. -/
def TableRow.Statement (i : Instr) : Prop := encode i &&& tableMask i = tableMatch i

theorem packCommand_and_op (op a : Word8) (b : Word16) (v : Word32) :
    packCommand op a b v &&& 0xFF00000000000000 = packCommand op 0 0 0 := by
  apply BitVec.eq_of_getLsbD_eq
  intro k hk
  have hm : (0xFF00000000000000 : Word64).getLsbD k = decide (56 ≤ k) := by
    interval_cases k <;> decide
  rw [BitVec.getLsbD_and, hm]
  simp only [packCommand, BitVec.getLsbD_append]
  by_cases h : 56 ≤ k
  · have h1 : ¬k < 32 := by omega
    have h2 : ¬k - 32 < 16 := by omega
    have h3 : ¬k - 32 - 16 < 8 := by omega
    simp [h, h1, h2, h3]
  · by_cases h1 : k < 32
    · simp [h, h1]
    · by_cases h2 : k - 32 < 16
      · simp [h, h1, h2]
      · have h3 : k - 32 - 16 < 8 := by omega
        simp [h, h1, h2, h3]

theorem packCommand_and_op_a (op a : Word8) (b : Word16) (v : Word32) :
    packCommand op a b v &&& 0xFFFF000000000000 = packCommand op a 0 0 := by
  apply BitVec.eq_of_getLsbD_eq
  intro k hk
  have hm : (0xFFFF000000000000 : Word64).getLsbD k = decide (48 ≤ k) := by
    interval_cases k <;> decide
  rw [BitVec.getLsbD_and, hm]
  simp only [packCommand, BitVec.getLsbD_append]
  by_cases h : 48 ≤ k
  · have h1 : ¬k < 32 := by omega
    have h2 : ¬k - 32 < 16 := by omega
    simp [h, h1, h2]
  · by_cases h1 : k < 32
    · simp [h, h1]
    · have h2 : k - 32 < 16 := by omega
      simp [h, h1, h2]


theorem TableRow.create : TableRow.Statement (.create) := packCommand_and_op _ _ _ _

theorem TableRow.destroy : TableRow.Statement (.destroy) := packCommand_and_op _ _ _ _

theorem TableRow.getvc : TableRow.Statement (.getvc) := packCommand_and_op _ _ _ _

theorem TableRow.noteon (note : Nat) (velocity : Word32) : TableRow.Statement (.noteon note velocity) := packCommand_and_op _ _ _ _

theorem TableRow.noteoff (note : Nat) : TableRow.Statement (.noteoff note) := packCommand_and_op _ _ _ _

theorem TableRow.cc (number : Nat) (value : Nat) : TableRow.Statement (.cc number value) := packCommand_and_op _ _ _ _

theorem TableRow.bend (value : Nat) : TableRow.Statement (.bend value) := packCommand_and_op _ _ _ _

theorem TableRow.paramVcaDepth (value : Word32) : TableRow.Statement (.paramVcaDepth value) := packCommand_and_op_a _ _ _ _

theorem TableRow.paramVcaType (value : Word32) : TableRow.Statement (.paramVcaType value) := packCommand_and_op_a _ _ _ _

theorem TableRow.paramDcoPwmDepth (value : Word32) : TableRow.Statement (.paramDcoPwmDepth value) := packCommand_and_op_a _ _ _ _

theorem TableRow.paramDcoPwmMod (value : Word32) : TableRow.Statement (.paramDcoPwmMod value) := packCommand_and_op_a _ _ _ _

theorem TableRow.paramDcoSawLevel (value : Word32) : TableRow.Statement (.paramDcoSawLevel value) := packCommand_and_op_a _ _ _ _

theorem TableRow.paramDcoPulseLevel (value : Word32) : TableRow.Statement (.paramDcoPulseLevel value) := packCommand_and_op_a _ _ _ _

theorem TableRow.paramDcoSubLevel (value : Word32) : TableRow.Statement (.paramDcoSubLevel value) := packCommand_and_op_a _ _ _ _

theorem TableRow.paramDcoNoiseLevel (value : Word32) : TableRow.Statement (.paramDcoNoiseLevel value) := packCommand_and_op_a _ _ _ _

theorem TableRow.paramDcoRange (value : Word32) : TableRow.Statement (.paramDcoRange value) := packCommand_and_op_a _ _ _ _

theorem TableRow.paramDcoPitchMod (value : Word32) : TableRow.Statement (.paramDcoPitchMod value) := packCommand_and_op_a _ _ _ _

theorem TableRow.paramVcfCutoff (value : Word32) : TableRow.Statement (.paramVcfCutoff value) := packCommand_and_op_a _ _ _ _

theorem TableRow.paramVcfResonance (value : Word32) : TableRow.Statement (.paramVcfResonance value) := packCommand_and_op_a _ _ _ _

theorem TableRow.paramVcfEnvMod (value : Word32) : TableRow.Statement (.paramVcfEnvMod value) := packCommand_and_op_a _ _ _ _

theorem TableRow.paramVcfLfoMod (value : Word32) : TableRow.Statement (.paramVcfLfoMod value) := packCommand_and_op_a _ _ _ _

theorem TableRow.paramVcfKbdMod (value : Word32) : TableRow.Statement (.paramVcfKbdMod value) := packCommand_and_op_a _ _ _ _

theorem TableRow.paramVcfBendMod (value : Word32) : TableRow.Statement (.paramVcfBendMod value) := packCommand_and_op_a _ _ _ _

theorem TableRow.paramEnvAttack (value : Word32) : TableRow.Statement (.paramEnvAttack value) := packCommand_and_op_a _ _ _ _

theorem TableRow.paramEnvDecay (value : Word32) : TableRow.Statement (.paramEnvDecay value) := packCommand_and_op_a _ _ _ _

theorem TableRow.paramEnvSustain (value : Word32) : TableRow.Statement (.paramEnvSustain value) := packCommand_and_op_a _ _ _ _

theorem TableRow.paramEnvRelease (value : Word32) : TableRow.Statement (.paramEnvRelease value) := packCommand_and_op_a _ _ _ _

theorem TableRow.paramLfoTrigMode (value : Word32) : TableRow.Statement (.paramLfoTrigMode value) := packCommand_and_op_a _ _ _ _

theorem TableRow.paramLfoRate (value : Word32) : TableRow.Statement (.paramLfoRate value) := packCommand_and_op_a _ _ _ _

theorem TableRow.paramLfoDelay (value : Word32) : TableRow.Statement (.paramLfoDelay value) := packCommand_and_op_a _ _ _ _

theorem TableRow.paramHpfAmount (value : Word32) : TableRow.Statement (.paramHpfAmount value) := packCommand_and_op_a _ _ _ _

theorem TableRow.paramChorusI (value : Word32) : TableRow.Statement (.paramChorusI value) := packCommand_and_op_a _ _ _ _

theorem TableRow.paramChorusII (value : Word32) : TableRow.Statement (.paramChorusII value) := packCommand_and_op_a _ _ _ _

theorem TableRow.getp (index : Nat) : TableRow.Statement (.getp index) := packCommand_and_op _ _ _ _

theorem TableRow.setvol (value : Word32) : TableRow.Statement (.setvol value) := packCommand_and_op _ _ _ _

theorem TableRow.getvol : TableRow.Statement (.getvol) := packCommand_and_op _ _ _ _

theorem TableRow.setoct (octaves : Int) : TableRow.Statement (.setoct octaves) := packCommand_and_op _ _ _ _

theorem TableRow.getoct : TableRow.Statement (.getoct) := packCommand_and_op _ _ _ _

theorem TableRow.render (frames : Nat) : TableRow.Statement (.render frames) := packCommand_and_op _ _ _ _

end Sys2Proof.Laws
end

