-- ==== Sys2Proof/Tests/Slice0.lean ====
section
/-! SUPPORT. The model's own tests: the smoke test of WellFormed, command words written out from the spec's
encodings, small numeric and one-command tests with the values of the spec, and for every statement with
hypotheses a witness that something meets them. -/

namespace Sys2Proof.Tests

open Sys2Proof.Machine

set_option Elab.async false

/-! ## WellFormed refuses an operand that does not fit its field (R81, R87, R89) -/

theorem test_illformed_noteon_note : ¬Instr.WellFormed (.noteon 256 0) := by decide

theorem test_illformed_noteoff_note : ¬Instr.WellFormed (.noteoff 256) := by decide

theorem test_illformed_cc_number : ¬Instr.WellFormed (.cc 256 0) := by decide

theorem test_illformed_cc_value : ¬Instr.WellFormed (.cc 0 65536) := by decide

theorem test_illformed_bend_value : ¬Instr.WellFormed (.bend 65536) := by decide

theorem test_illformed_getp_index : ¬Instr.WellFormed (.getp 256) := by decide

theorem test_illformed_setoct_high : ¬Instr.WellFormed (.setoct 32768) := by decide

theorem test_illformed_setoct_low : ¬Instr.WellFormed (.setoct (-32769)) := by decide

theorem test_illformed_render_frames : ¬Instr.WellFormed (.render 65536) := by decide

/-! ## Words written out from the encodings (R81 to R83, R100, the examples of R352 to R377) -/

theorem test_decode_create : decode 0x0100000000000000 = .instr .create := by decide

theorem test_decode_destroy : decode 0x0200000000000000 = .instr .destroy := by decide

theorem test_decode_getvc : decode 0x0300000000000000 = .instr .getvc := by decide

theorem test_decode_noteon : decode 0x103C00003F800000 = .instr (.noteon 60 0x3F800000) := by decide

theorem test_decode_noteoff : decode 0x113C000000000000 = .instr (.noteoff 60) := by decide

theorem test_decode_cc : decode 0x127B000000000000 = .instr (.cc 123 0) := by decide

theorem test_decode_cc_value : decode 0x1240007F00000000 = .instr (.cc 64 127) := by decide

theorem test_decode_bend : decode 0x13003FFF00000000 = .instr (.bend 16383) := by decide

theorem test_decode_getp : decode 0x210A000000000000 = .instr (.getp 10) := by decide

theorem test_decode_setvol : decode 0x220000003F000000 = .instr (.setvol 0x3F000000) := by decide

theorem test_decode_getvol : decode 0x2300000000000000 = .instr .getvol := by decide

theorem test_decode_setoct : decode 0x2400FFFF00000000 = .instr (.setoct (-1)) := by decide

theorem test_decode_setoct_least : decode 0x2400800000000000 = .instr (.setoct (-32768)) := by decide

theorem test_decode_getoct : decode 0x2500000000000000 = .instr .getoct := by decide

theorem test_decode_render : decode 0x3000008000000000 = .instr (.render 128) := by decide

theorem test_decode_noteoff_ignores_v : decode 0x113C00007FC00000 = .instr (.noteoff 60) := by decide

theorem test_decode_paramVcaDepth : decode 0x200000003E800000 = .instr (.paramVcaDepth 0x3E800000) := by decide

theorem test_decode_paramVcaType : decode 0x200100003F800000 = .instr (.paramVcaType 0x3F800000) := by decide

theorem test_decode_paramDcoPwmDepth : decode 0x200200003F800000 = .instr (.paramDcoPwmDepth 0x3F800000) := by decide

theorem test_decode_paramDcoPwmMod : decode 0x2003000040000000 = .instr (.paramDcoPwmMod 0x40000000) := by decide

theorem test_decode_paramDcoSawLevel : decode 0x200400003F800000 = .instr (.paramDcoSawLevel 0x3F800000) := by decide

theorem test_decode_paramDcoPulseLevel : decode 0x200500003F000000 = .instr (.paramDcoPulseLevel 0x3F000000) := by decide

theorem test_decode_paramDcoSubLevel : decode 0x200600003F000000 = .instr (.paramDcoSubLevel 0x3F000000) := by decide

theorem test_decode_paramDcoNoiseLevel : decode 0x200700003F000000 = .instr (.paramDcoNoiseLevel 0x3F000000) := by decide

theorem test_decode_paramDcoRange : decode 0x2008000040000000 = .instr (.paramDcoRange 0x40000000) := by decide

theorem test_decode_paramDcoPitchMod : decode 0x200900003F800000 = .instr (.paramDcoPitchMod 0x3F800000) := by decide

theorem test_decode_paramVcfCutoff : decode 0x200A00003F000000 = .instr (.paramVcfCutoff 0x3F000000) := by decide

theorem test_decode_paramVcfResonance : decode 0x200B00003F800000 = .instr (.paramVcfResonance 0x3F800000) := by decide

theorem test_decode_paramVcfEnvMod : decode 0x200C00003F800000 = .instr (.paramVcfEnvMod 0x3F800000) := by decide

theorem test_decode_paramVcfLfoMod : decode 0x200D00003F800000 = .instr (.paramVcfLfoMod 0x3F800000) := by decide

theorem test_decode_paramVcfKbdMod : decode 0x200E00003F800000 = .instr (.paramVcfKbdMod 0x3F800000) := by decide

theorem test_decode_paramVcfBendMod : decode 0x200F00003F800000 = .instr (.paramVcfBendMod 0x3F800000) := by decide

theorem test_decode_paramEnvAttack : decode 0x201000003F800000 = .instr (.paramEnvAttack 0x3F800000) := by decide

theorem test_decode_paramEnvDecay : decode 0x2011000000000000 = .instr (.paramEnvDecay 0x00000000) := by decide

theorem test_decode_paramEnvSustain : decode 0x201200003F800000 = .instr (.paramEnvSustain 0x3F800000) := by decide

theorem test_decode_paramEnvRelease : decode 0x2013000000000000 = .instr (.paramEnvRelease 0x00000000) := by decide

theorem test_decode_paramLfoTrigMode : decode 0x201400003F800000 = .instr (.paramLfoTrigMode 0x3F800000) := by decide

theorem test_decode_paramLfoRate : decode 0x201500003F800000 = .instr (.paramLfoRate 0x3F800000) := by decide

theorem test_decode_paramLfoDelay : decode 0x201600003F800000 = .instr (.paramLfoDelay 0x3F800000) := by decide

theorem test_decode_paramHpfAmount : decode 0x201700003F800000 = .instr (.paramHpfAmount 0x3F800000) := by decide

theorem test_decode_paramChorusI : decode 0x201800003F800000 = .instr (.paramChorusI 0x3F800000) := by decide

theorem test_decode_paramChorusII : decode 0x201900003F800000 = .instr (.paramChorusII 0x3F800000) := by decide

theorem test_decode_reserved : decode 0x7F00000000000000 = .reservedOp 0x7F := by decide

theorem test_decode_reserved_zero : decode 0 = .reservedOp 0 := by decide

theorem test_decode_illegal_index : decode 0x201A00007FC00000 = .illegalIndex 26 := by decide

theorem test_table_word : decodeTableWord 64 0x200A00003F000000 = some (.paramVcfCutoff 0x3F000000) := by decide

/-- The frame of R100: left 1000, right -1000. -/
theorem test_frame_word : frameWord 1000 (-1000) = 0xFC1803E8 := by decide

theorem test_frame_bytes : frameBytes 0xFC1803E8 = [0xE8, 0x03, 0x18, 0xFC] := by decide

theorem test_asm : asm (.noteon 60 0x3F800000) = "NOTEON 60, f32:0x3f800000" := by decide +kernel

/-! ## Numbers (R88, R11, R9) -/

theorem test_f32_half : f32Decode 0x3F000000 = .fin (1/2) := by decide +kernel

theorem test_f32_least_subnormal : f32Decode 0x80000001 = .fin (-1 / 2 ^ 149) := by decide +kernel

theorem test_f32_specials :
    f32Decode 0x7F800000 = .posInf ∧ f32Decode 0xFF800000 = .negInf ∧ f32Decode 0xFFC00001 = .nan := by decide +kernel

/-- 1.4 reads back as 0x3FB33333 (R380 a). -/
theorem test_f32_encode : f32Encode (7/5) = 0x3FB33333 := by decide +kernel

/-- Ties go to the even fraction: 1 + 2^-24 to 1, 1 + 3 * 2^-24 to 1 + 2^-22. -/
theorem test_f32_ties : f32Encode (1 + 1 / 2 ^ 24) = 0x3F800000 ∧ f32Encode (1 + 3 / 2 ^ 24) = 0x3F800002 := by
  decide +kernel

/-- A NUM whose arithmetic is that of binary32. -/
def binary32 : Numerics := { Numerics.reference with carrier := .float 23 149 127 }

/-- One third in binary32 is 0x3EAAAAAB, and a third of the least subnormal is 0; 2^-24 is lost beside 1, twice and a
half times it is rounded up; the largest number is in it. -/
theorem test_binary32_arithmetic :
    f32Decode 0x3EAAAAAB = .fin (binary32.div 1 3) ∧ binary32.div (1 / 2 ^ 149) 3 = 0 ∧
      binary32.add 1 (1 / 2 ^ 24) = 1 ∧ binary32.sub (-1) (5 / 2 ^ 25) = -1 - 1 / 2 ^ 23 ∧
      f32Decode 0x7F7FFFFF = .fin (binary32.mul (2 ^ 127) (2 - 1 / 2 ^ 23)) := by decide +kernel

/-- With 4 fractional bits, 1/3 is 5/16, and 1/32 is halfway between 0 and 1/16. -/
theorem test_fixed_point_arithmetic :
    let n : Numerics := { Numerics.reference with carrier := .fixed 4 }
    n.div 1 3 = 5/16 ∧ n.mul (1/4) (1/8) = 0 ∧ n.mul (3/4) (1/8) = 1/8 := by decide +kernel

/-- The smoother in binary32, from 0 to 1: one sample is the binary32 number nearest 1/441. -/
theorem test_binary32_smoother :
    f32Decode (f32Encode (1/441)) =
      .fin (({ y := 0, t := 1 } : Smoother).advance { Config.reference with num := binary32 }).y := by decide +kernel

theorem test_tag : tag (7/5) 3 = 1 ∧ tag (1/2) 2 = 1 ∧ tag (49/100) 2 = 0 ∧ tag 2 3 = 2 := by decide +kernel

/-- 2^(-7/12) = 0.6674199270850172 (R146). -/
theorem test_bend_mul : |bendMulOf .reference (-7) - 6674199270850172 / 10 ^ 16| < 1 / 10 ^ 15 := by decide +kernel

/-- Note 60 is 261.6255653 Hz (R342). -/
theorem test_base_freq : |baseFreq .reference 60 - 2616255653 / 10 ^ 7| < 1 / 10 ^ 7 := by decide +kernel

/-- SoftClip(0.5) = 0.905148 (R301). -/
theorem test_soft_clip : |softClip .reference (1/2) - 905148 / 10 ^ 6| < 1 / 10 ^ 6 := by decide +kernel

/-- sin(pi/6) is one half. -/
theorem test_sin : |Machine.sin .reference (Config.twoPiLfo / 12) - 1/2| < 1 / 10 ^ 15 := by decide +kernel

/-- The attack slider's ends (R163). -/
theorem test_curve :
    curve .reference Config.reference.ctAttack 0 = 1/1000 ∧ curve .reference Config.reference.ctAttack 1 = 13/4 := by
  decide +kernel

/-- A table in closed form, the square (R161): the argument is clamped. -/
theorem test_curve_closed :
    curve .reference (.closed (.mul (.var 0) (.var 0))) (1/2) = 1/4 ∧
      curve .reference (.closed (.mul (.var 0) (.var 0))) 7 = 1 := by decide +kernel

/-- After three advances of 1/441 from 0 to 1: 0.0067873071 (R174). -/
theorem test_smoother :
    |((({ y := 0, t := 1 } : Smoother).advance .reference).advance .reference |>.advance .reference).y
      - 67873071 / 10 ^ 10| < 1 / 10 ^ 10 := by decide +kernel

/-! ## Units (R203, R230, R255, R279, R312) -/

/-- The gate envelope from the trigger, `n` advances on. -/
def gateAfter : Nat → EnvState
  | 0 => { stage := .attack, level := 0, aux := [] }
  | n + 1 => envAdvance .reference Config.gateEnv (gateAfter n)

/-- The 111th advance of the gate envelope enters Decay, the 117th Sustain at 0.98 (R203). -/
theorem test_gate_envelope :
    (gateAfter 110).stage = .attack ∧ gateAfter 111 = { stage := .decay, level := 1, aux := [] } ∧
      (gateAfter 116).stage = .decay ∧ gateAfter 117 = { stage := .sustain, level := 49/50, aux := [] } := by
  decide +kernel

/-- The saw at 441 Hz begins -0.98 (R230). -/
theorem test_osc_saw :
    (oscSample .reference { OscState.zero with saw := { y := 1, t := 1 } } 441 0 0).2 = -98/100 := by decide +kernel

/-- At phase 1 the cycle wraps: phase 0, the sub-octave sign flips, the saw is -1 (R230). -/
theorem test_osc_wrap :
    let r := oscSample .reference { OscState.zero with saw := { y := 1, t := 1 }, phase := 99/100 } 441 0 0
    r.1.phase = 0 ∧ r.1.subSign = .minus ∧ r.2 = -1 := by decide +kernel

/-- Slider 0.5 alone is 2515.8104 Hz; with one octave of keyboard, note 72, 5031.6207 Hz (R255). -/
theorem test_cutoff :
    |cutoffHz .reference (cutoffOct .reference (baseCutoffOct .reference (1/2) 0) 0 0 0 0 0 0 60 0 0) - 25158104 / 10 ^ 4| < 1 / 10 ^ 4 ∧
      |cutoffHz .reference (cutoffOct .reference (baseCutoffOct .reference (1/2) 0) 0 0 0 0 0 1 72 0 0) - 50316207 / 10 ^ 4| < 1 / 10 ^ 3 := by
  decide +kernel

/-- The first two LFO samples of R279. -/
theorem test_lfo :
    let p := Config.reference.paramDefault
    let l1 := lfoAdvance .reference p 0 (lfoNoteOn (lfoShutdown .reference))
    let l2 := lfoAdvance .reference p 0 l1
    l1.stage = .attack ∧ |l1.out - 309542 / 10 ^ 10| < 1 / 10 ^ 10 ∧ |l2.out - 123817 / 10 ^ 9| < 1 / 10 ^ 9 := by
  decide +kernel

/-- The first frame of R312: 0.148676 on both channels, and half of it with stage I on. -/
theorem test_effects :
    let p := Config.reference.paramDefault
    let r := effectsFrame .reference p (hpfReset .reference, initialChorus .reference) (1/10)
    let r1 := effectsFrame .reference (p.set 24 1) (hpfReset .reference, initialChorus .reference) (1/10)
    |r.2.1 - 148676 / 10 ^ 6| < 1 / 10 ^ 6 ∧ r.2.1 = r.2.2 ∧ |r1.2.1 - 74338 / 10 ^ 6| < 1 / 10 ^ 6 := by
  decide +kernel

theorem test_pcm :
    pcmConvert .reference 1 (.fin 2) = 32767 ∧ pcmConvert .reference 1 (.fin (-2)) = -32768 ∧
      pcmConvert .reference 1 (.fin (-1)) = -32767 ∧ pcmConvert .reference 1 (.fin (-1 / 40000)) = 0 := by
  decide +kernel

/-- Test vectors R3 and R4 in binary32; and a product that overflows, which saturates, but at volume 0 is a NaN. -/
theorem test_pcm_nonfinite :
    let c : Config := { Config.reference with num := binary32 }
    let loud : Config := { c with masterGain := 2 ^ 120 }
    (pcmConvert c 1 .posInf = 32767 ∧ pcmConvert c 1 .negInf = -32768 ∧ pcmConvert c 1 .nan = 0) ∧
      pcmConvert c 0 .posInf = 0 ∧ pcmConvert loud 1 (.fin 1) = 32767 ∧ pcmConvert loud 1 (.fin (-1)) = -32768 ∧
      pcmConvert { c with masterGain := 2 ^ 127 } 0 (.fin 4) = 0 := by decide +kernel

/-! ## Kernels given as programs (R6, U6)

Each by a formula simple enough to compute by hand. -/

/-- A program whose private state is one number, replaced by a formula. -/
def oneCell (e : Expr) : Program := { locals := [], next := [e] }

/-- An exponential release, halved in every sample, over below 1/100. -/
def halvingRelease : EnvSegment where
  body  := { locals := [], next := [] }
  level := .mul (.var 0) (.const (1/2))
  done  := .sub (.const (1/100)) (.mul (.var 0) (.const (1/2)))

/-- A program that ends no segment of itself: Release ends at ENV_IDLE_EPS (R197 b), Decay at the sustain level,
also where a new one is above the level (R370), and Attack at 1 (R181). -/
theorem test_env_program_ends :
    let c : Config := { Config.reference with
      envKernel := .program
        { attack := { halvingRelease with level := .const 1, done := .const 0 }
          decay := { halvingRelease with done := .const 0 }, release := { halvingRelease with done := .const 0 }
          idle := { locals := [], next := [] }, sustain := { locals := [], next := [] }, aux := [] } }
    (envAdvance c Config.gateEnv { stage := .release, level := 3/10000, aux := [] }).level = 3/20000 ∧
      envAdvance c Config.gateEnv { stage := .release, level := 1/5000, aux := [] } =
        { stage := .idle, level := 0, aux := [] } ∧
      (envAdvance c Config.gateEnv { stage := .attack, level := 1/2, aux := [] }).stage = .decay ∧
      envAdvance c { Config.gateEnv with sustain := 1/4 } { stage := .decay, level := 1, aux := [] } =
        { stage := .decay, level := 1/2, aux := [] } ∧
      envAdvance c Config.gateEnv { stage := .decay, level := 1/2, aux := [] } =
        { stage := .sustain, level := 49/50, aux := [] } := by decide +kernel

theorem test_env_program :
    let c : Config := { Config.reference with
      envKernel := .program
        { attack := halvingRelease, decay := halvingRelease, release := halvingRelease
          idle := { locals := [], next := [] }, sustain := oneCell (.add (.var 5) (.var 4)), aux := [] } }
    envAdvance c Config.gateEnv { stage := .release, level := 1/2, aux := [] } =
        { stage := .release, level := 1/4, aux := [] } ∧
      envAdvance c Config.gateEnv { stage := .release, level := 1/100, aux := [] } =
        { stage := .idle, level := 0, aux := [] } ∧
      (envAdvance c Config.gateEnv { stage := .attack, level := 1/2, aux := [] }).level = 1/2 ∧
      envAdvance c Config.gateEnv { stage := .sustain, level := 0, aux := [1] } =
        { stage := .sustain, level := 49/50, aux := [1 + 3/500] } := by decide +kernel

/-- A kernel that counts cycles and latches the PWM-mod value when a cycle begins: a saw of the phase, a pulse of the
latched value, no sub-octave, the mean of this draw and the last one as noise. -/
theorem test_osc_program :
    let c : Config := { Config.reference with
      oscKernel := .program
        { body :=
            { locals := [.add (.var 2) (.div (.var 0) (.const 44100))]
              next := [.sub (.var 4) (.floor (.var 4)), .ifLess (.var 4) (.const 1) (.var 3) (.var 1)] }
          source := oneCell (.var 0)
          saw := .var 0, pulse := .var 2, sub := .const 0
          noise := .mul (.const (1/2)) (.add (.var 0) (.var 1)), aux := [99/100, 1/2], noiseAux := [0] } }
    let o : OscState := oscReset c { OscState.zero with saw := { y := 1, t := 1 } }
    (oscAdvance c o 44 (1/3) 1).aux = [99/100 + 11/11025, 1/2] ∧ (oscAdvance c o 441 (1/3) 1).aux = [0, 1/3] ∧
      (oscWaves c (oscAdvance c o 441 (1/3) 1) (1/4) 1).pulse = 1/3 ∧
      (oscAdvance c o 441 (1/3) 1).noiseAux = [1] ∧
      (oscWaves c (oscAdvance c o 441 0 1) 0 1).noise = 1 ∧
      (oscSample c o 44 0 (-1)).2 = 99/100 + 11/11025 := by decide +kernel

theorem test_pwm_source :
    let c : Config := { Config.reference with
      pwmSource := { manual := 1/2, lfo := .mul (.var 0) (.var 0), env := .sub (.var 1) (.mul (.const (1/2)) (.var 0)) } }
    pwmSource c .manual 1 1 1 = 1/2 ∧ pwmSource c .lfoModulated (-1/2) 0 0 = 1/4 ∧
      pwmSource c .envelopeModulated 0 (1/4) 1 = 7/8 := by decide +kernel

/-- A one-pole filter that takes half the way in each sample. -/
def halfPole : FilterProgram where
  body := oneCell (.add (.var 3) (.mul (.const (1/2)) (.sub (.var 0) (.var 3))))
  out  := .var 3
  aux  := [0]

theorem test_vcf_program :
    let c : Config := { Config.reference with vcfKernel := .program halfPole }
    (vcfSample c (vcfReset c) 1 1000 0).2 = 1/2 ∧
      (vcfSample c (vcfSample c (vcfReset c) 1 1000 0).1 1 1000 0).2 = 3/4 := by decide +kernel

theorem test_hpf_program :
    let c : Config := { Config.reference with
      hpfKernel := .program { halfPole with out := .sub (.var 0) (.var 3) } }
    let p := Config.reference.paramDefault
    (hpfSample c p (hpfReset c) 1).2 = 1/2 ∧ (hpfSample c p (hpfSample c p (hpfReset c) 1).1 1).2 = 1/4 := by
  decide +kernel

/-- The phase as the wave while the gate is up, a square-law ramp, and a count of cycles, at 15.05 Hz, a delay of 0 and
a ramp-in of 44.1 samples; nothing in Off; and once it is full, a longer ramp-in does not bring the ramp back. -/
theorem test_lfo_program :
    let c : Config := { Config.reference with
      lfoKernel := .program
        { body := oneCell (.add (.var 8) (.var 7)), wave := .mul (.var 5) (.var 6), ramp := .mul (.var 0) (.var 0)
          aux := [0] } }
    let p := Config.reference.paramDefault
    let l := lfoAdvance c p 0 (lfoNoteOn (lfoShutdown c))
    let r := lfoAdvance c (p.set 22 1) 0 { l with stage := .run, ramp := 1, phase := 1 - 1/44100 }
    l.out = 301/882000 * (10/441 * (10/441)) ∧ l.phase = 301/882000 ∧ l.stage = .attack ∧ l.aux = [0] ∧
      (lfoAdvance c p 0 (lfoShutdown c)).out = 0 ∧ r.out = 281/882000 ∧ r.aux = [1] := by decide +kernel

/-- A table over [-1, 1] clamps its argument to the interval first (R300 K3). -/
theorem test_soft_clip_table :
    let c : Config := { Config.reference with softClip := .sampled (-1) 1 [(0, -1), (1/2, 0), (1, 1)] }
    softClip c 7 = 1 ∧ softClip c (-1/2) = -1/2 ∧ softClip c 0 = 0 := by decide +kernel

/-- An echo of one sample on the left, of the frames in which stage I was on; the input on both channels with neither
stage on. -/
theorem test_chorus_program :
    let c : Config := { Config.reference with
      chorusKernel := .program
        { body := { locals := [], next := [.mul (.var 0) (.var 1), .var 3] }
          left := .add (.var 0) (.var 4), right := .var 0, aux := [0, 0] } }
    let s := (chorusSample c (initialChorus c) (1/2) true false).1
    (chorusSample c s (1/4) true false).2 = (3/4, 1/4) ∧ (chorusSample c s 1 true true).2 = (1, 1) ∧
      (chorusSample c s (1/4) false false).2 = (1/4, 1/4) ∧
      (chorusSample c (chorusSample c s (1/4) false true).1 (1/8) true true).2 = (1/8, 1/8) := by decide +kernel

/-! ## Small states -/

/-- The reference machine after `CREATE`. -/
def fresh : State := { State.reset with instValid := true, eng := initialEngine Config.reference }

/-- The same, with note 60 struck at full velocity. -/
def playing : State := { fresh with eng := noteOnEngine Config.reference fresh.eng 60 1 }

/-- The engine with the notes of a list struck in order. -/
def struckAll : List Nat → Engine → Engine
  | [], e => e
  | n :: ns, e => struckAll ns (noteOnEngine Config.reference e n 1)

/-- Six notes, 60 to 65. -/
def full : State := { fresh with eng := struckAll [60, 61, 62, 63, 64, 65] fresh.eng }

/-- Six notes, the last one let go. -/
def lastReleased : State := { full with eng := noteOffEngine Config.reference full.eng 65 }

/-- The state a command leaves; every command answers a next state. -/
def after (i : Instr) (s : State) : State :=
  match exec i s with
  | .next t => t
  | .fault _ => s
  | .refused _ => s

/-! ## One command each, with the values of the spec -/

theorem test_create_getvc :
    (after .create State.reset).eng = fresh.eng ∧
      (after .getvc (after .create State.reset)).rspPort = [0x0100000000000000, 0x0300000000000000] := by
  decide +kernel

theorem test_destroy :
    (after .destroy fresh).instValid = false ∧ (after .destroy fresh).rspPort = [0x0200000000000000] := by
  decide +kernel

/-- Two notes: COUNT 2, mask 3 (R116). -/
theorem test_getvc :
    (after .getvc { fresh with eng := struckAll [60, 64] fresh.eng }).rspPort = [0x0300000200000003] := by
  decide +kernel

/-- The example of R131: A4 at half velocity. -/
theorem test_noteon :
    let v := (after (.noteon 69 0x3F000000) fresh).eng.voices[0]
    v.active = true ∧ v.note = some 69 ∧ v.vel = 1/2 ∧ v.bendMul = 1 ∧ v.freq = 440 ∧ v.envA.stage = .attack ∧
      v.envG.stage = .attack := by decide +kernel

/-- The seventh note steals slot 0 (R132). -/
theorem test_noteon_steal :
    let t := after (.noteon 66 0x3F800000) full
    t.eng.voices[0].note = some 66 ∧ t.eng.voices[1].note = some 61 := by decide +kernel

/-- The example of R135: released at level 0, so the LFO gets its note-off. -/
theorem test_noteoff :
    let t := after (.noteoff 60) playing
    t.eng.voices[0].envA.stage = .release ∧ t.eng.voices[0].active = true ∧ t.eng.lfo.gate = false := by
  decide +kernel

theorem test_noteoff_no_match : (after (.noteoff 61) playing).eng = playing.eng := by decide +kernel

theorem test_cc : activeCount (after (.cc 123 0) full).eng.voices = 0 := by decide +kernel

theorem test_cc_pedal : (after (.cc 64 127) full).eng = full.eng := by decide +kernel

/-- Bend 0 under A4 is 293.6647679174076 Hz (R146). -/
theorem test_bend :
    let t := after (.bend 0) (after (.noteon 69 0x3F800000) fresh)
    t.eng.bendSemi = -7 ∧ |t.eng.voices[0].freq - 2936647679174076 / 10 ^ 13| < 1 / 10 ^ 12 := by decide +kernel

theorem test_bend_top : bendSemitones .reference 65535 = 69991455078125 / 10 ^ 13 := by decide +kernel

/-- 1.4 is stored as it stands, its tag is 1, and every voice takes the LFO as its source (R355, R380 a). -/
theorem test_param_pwm_mod :
    let t := after (.paramDcoPwmMod 0x3FB33333) fresh
    f32Encode t.eng.params[3] = 0x3FB33333 ∧ t.eng.voices[5].pwmSrc = .lfoModulated := by decide +kernel

theorem test_param_clamps :
    (after (.paramDcoRange 0x40A00000) fresh).eng.params[8] = 2 ∧
      (after (.paramVcfCutoff 0x7F800000) fresh).eng.params[10] = 1 ∧
      (after (.paramVcfCutoff 0xFF800000) fresh).eng.params[10] = 0 := by decide +kernel

/-- A write sets the target and not the value (R173). -/
theorem test_param_cutoff :
    (after (.paramVcfCutoff 0x3F800000) fresh).eng.sm.cutoff = { y := 1/2, t := 1 } := by decide +kernel

/-- Scenario C: the change of mode shuts the LFO down (R372). -/
theorem test_param_lfo_trig :
    (after (.paramLfoTrigMode 0x3F800000) playing).eng.lfo = lfoShutdown .reference ∧
      (after (.paramLfoTrigMode 0x3E800000) playing).eng.lfo = playing.eng.lfo := by decide +kernel

theorem test_getp : (after (.getp 10) fresh).rspPort = [0x210000003F000000] := by decide +kernel

theorem test_getp_badidx : (after (.getp 26) fresh).rspPort = [0x2103000000000000] := by decide +kernel

theorem test_setvol_getvol :
    (after .getvol (after (.setvol 0x3F000000) fresh)).rspPort = [0x2200000000000000, 0x230000003F000000] := by
  decide +kernel

theorem test_setoct_getoct :
    (after .getoct (after (.setoct (-1)) fresh)).rspPort = [0x2400000000000000, 0x25000000FFFFFFFF] := by
  decide +kernel

theorem test_setoct_clamps : (after (.setoct 9) fresh).eng.octave = 3 := by decide +kernel

theorem test_render_no_instance :
    (after (.render 4) State.reset).rspPort = [0x3001000400000000] ∧
      (after (.render 4) State.reset).pcmPort = [0, 0, 0, 0] := by decide +kernel

/-- The first four frames of Scenario A (R342), with every draw 0. -/
theorem test_render_scenario_a :
    (renderWith (fun _ _ => 0) 4 playing).pcmPort = [0x00000000, 0xFFFBFFFB, 0xFFEDFFED, 0xFFD2FFD2] ∧
      (renderWith (fun _ _ => 0) 4 playing).rspPort = [0x3000000400000000] := by decide +kernel

/-! ## Status words of R414 -/

/-- The response to one word. -/
def answer (w : Word64) (s : State) : List Word64 :=
  match step { s with cmdPort := [w] } with
  | .next t => t.rspPort
  | .fault _ => []
  | .refused _ => []

theorem test_status_no_instance :
    answer 0x7F00000000000000 State.reset = [0x7F02000000000000] ∧
      answer 0x103C00003F800000 State.reset = [0x1001000000000000] ∧
      answer 0x20C800007FC00000 State.reset = [0x2001000000000000] := by decide +kernel

theorem test_status_instance :
    answer 0x20C800007FC00000 fresh = [0x2003000000000000] ∧
      answer 0x200A00007FC00000 fresh = [0x2004000000000000] ∧
      answer 0x200A00007F800000 fresh = [0x2000000000000000] ∧
      answer 0x22000000FFFFFFFF fresh = [0x2204000000000000] := by decide +kernel
/-! ## Witnesses: what meets the hypotheses of each statement, clause by clause -/

theorem witness_DecodeOfEncode :
    (Instr.render 65535).WellFormed ∧ (Instr.setoct (-32768)).WellFormed ∧ (Instr.noteon 255 0x7FC00000).WellFormed := by
  decide

theorem witness_EncodeOfDecode : decode 0x10FFFFFF7FC00000 = .instr (.noteon 255 0x7FC00000) := by decide

theorem witness_IgnoredFieldsHaveNoEffect :
    decode 0x113C000000000000 = .instr (.noteoff 60) ∧
      (0x113CFFFF7FC00000 : Word64) &&& readMask (.noteoff 60) = 0x113C000000000000 &&& readMask (.noteoff 60) := by
  decide

/-- One word for the clause on decoded words and for the clause on rows, here with the row's own command twice. -/
theorem witness_OpcodeTableSelects :
    decode 0x2019000000000000 = .instr (.paramChorusII 0) ∧
      (0x2019000000000000 : Word64) &&& tableMask (.paramChorusII 0) = tableMatch (.paramChorusII 0) ∧
      (0x2019000000000000 : Word64) &&& tableMask (.paramChorusII 1) = tableMatch (.paramChorusII 1) := by decide

/-- The last clause at both ends of the range of a sample. -/
theorem witness_SerialisedWords :
    ((-32768 : Int) ≤ -32768 ∧ (-32768 : Int) ≤ 32767) ∧ ((-32768 : Int) ≤ 32767 ∧ (32767 : Int) ≤ 32767) := by decide

/-- `fresh` with one word on its command port. -/
def waiting (w : Word64) : State := { fresh with cmdPort := [w] }

theorem witness_StepRunsTheDecodedCommand :
    (waiting 0x0300000000000000).cmdPort = [0x0300000000000000] ∧ decode 0x0300000000000000 = .instr .getvc ∧
      decode 0x3100000000000000 = .reservedOp 0x31 ∧ decode 0x201A000000000000 = .illegalIndex 26 ∧
      fresh.cmdPort = [] := by decide

theorem witness_EveryCommandAnsweredByPriority : (waiting 0x20C800007FC00000).cmdPort = [0x20C800007FC00000] := by
  decide

/-- `PARAM 10, NaN` on an instance: a step to a state whose one new response is BADVAL. -/
theorem witness_ReportedConditionsChangeNothing :
    step (waiting 0x200A00007FC00000) = .next { fresh with rspPort := [0x2004000000000000] } ∧
      (0x2004000000000000 : Word64).extractLsb' 48 8 ≠ 0 := by
  refine ⟨?_, by decide⟩
  have h : numOperand 0x7FC00000 0 (paramHi (10 : Fin 26)) = none := by decide +kernel
  have hd : decode 0x200A00007FC00000 = .instr (.paramVcfCutoff 0x7FC00000) := by decide
  have hv : ({ waiting 0x200A00007FC00000 with cmdPort := [] } : State).instValid = true := by decide
  rw [step, State.takeCommand_cons (w := 0x200A00007FC00000) (ws := []) rfl]
  simp only [runDecoded, hd, exec, execParamVcfCutoff, paramWith]
  rw [withInstance_of_valid hv, withNum_of_none h]
  rfl

theorem witness_StepFrame : step fresh = .next fresh := by
  rw [step, State.takeCommand_nil (by decide)]

/-- An instance, and a `CREATE` after the `DESTROY` that completes. -/
theorem witness_DestroyResult : fresh.instValid = true ∧ ∃ u, exec .create (after .destroy fresh) = .next u :=
  ⟨by decide, _, rfl⟩

theorem witness_GetvcResult : State.reset.instValid = false ∧ playing.instValid = true := by decide

theorem witness_NoInstanceMeansNoOperation : State.reset.instValid = false ∧ Instr.render 65535 ≠ .create := by decide

/-- Slot 0 inactive; slot 1 the first inactive one; all active and slot 5 the first released one; none
released. -/
theorem witness_AllocPolicy :
    (fresh.eng.voices[0]).active = false ∧
      ((playing.eng.voices[1]).active = false ∧ ∀ j : Fin 6, j < 1 → (playing.eng.voices[j]).active = true) ∧
      ((∀ j : Fin 6, (lastReleased.eng.voices[j]).active = true) ∧
        envReleased .reference (currentEnv lastReleased.eng.voices[5]) = true ∧
        ∀ j : Fin 6, j < 5 → envReleased .reference (currentEnv lastReleased.eng.voices[j]) = false) ∧
      ((∀ j : Fin 6, (full.eng.voices[j]).active = true) ∧
        ∀ j : Fin 6, envReleased .reference (currentEnv full.eng.voices[j]) = false) ∧
      Config.reference.releasedReading = .completed ∧
      ({ Config.reference with releasedReading := .entered } : Config).releasedReading = .entered := by decide +kernel

/-- A velocity of 1, one of plus infinity, and one of minus zero. -/
theorem witness_NoteonResult :
    fresh.instValid = true ∧ numOperand 0x3F800000 0 1 = some 1 ∧ numOperand 0x7F800000 0 1 = some 1 ∧
      numOperand 0x80000000 0 1 = some 0 := by decide +kernel

/-- Note 60 in slot 0, the first slot, note 65 in slot 5, the last one, and note 66 in no slot. -/
theorem witness_NoteoffResult :
    full.instValid = true ∧
      (max 0 (min 127 ((60 : Int) + 12 * full.eng.octave))).toNat = 60 ∧
      ((full.eng.voices[0]).active = true ∧ envReleased full.cfg (currentEnv full.eng.voices[0]) = false ∧
        (full.eng.voices[0]).note = some 60) ∧
      ((full.eng.voices[5]).active = true ∧ envReleased full.cfg (currentEnv full.eng.voices[5]) = false ∧
        (full.eng.voices[5]).note = some 65) ∧
      (∀ j : Fin 6, j < 5 → (full.eng.voices[j]).note ≠ some 65) ∧
      ∀ j : Fin 6, (full.eng.voices[j]).note ≠ some (max 0 (min 127 ((66 : Int) + 12 * full.eng.octave))).toNat := by
  decide +kernel

theorem witness_CcResult : playing.instValid = true := by decide

theorem witness_BendResult : playing.instValid = true ∧ State.reset.instValid = false := by decide

theorem witness_BendRangeAndExtremes :
    Numerics.reference.carrier = .rational ∧ 16383 ≤ 16383 ∧ 16383 ≤ 65535 ∧ 0 ≤ 8192 := by decide

theorem witness_SeventhNoteStealsSlotZero :
    fresh.instValid = true ∧ (∀ k : Fin 6, (fresh.eng.voices[k]).active = false) ∧
      ∀ _ : Fin 7, numOperand 0x3F800000 0 1 ≠ none := by decide +kernel

theorem witness_OctaveChangeLeavesNoteHeld :
    fresh.instValid = true ∧ (∀ k : Fin 6, (fresh.eng.voices[k]).active = false) ∧
      numOperand 0x3F800000 0 1 ≠ none ∧
      transposedNote (octaveSetting fresh.cfg 1) 60 ≠ transposedNote fresh.eng.octave 60 := by decide +kernel

/-- The four classes of pattern at their boundaries: exponents 1 and 254, 0, infinity, a NaN. -/
theorem witness_NumOperandValues :
    (0 : NUM) ≤ 1 ∧ ((0x00800000 : Word32).extractLsb' 23 8).toNat = 1 ∧
      ((0x7F7FFFFF : Word32).extractLsb' 23 8).toNat = 254 ∧ ((0x807FFFFF : Word32).extractLsb' 23 8).toNat = 0 ∧
      (((0xFF800000 : Word32).extractLsb' 23 8).toNat = 255 ∧ ((0xFF800000 : Word32).extractLsb' 0 23).toNat = 0) ∧
      numOperand 0x7F800001 0 1 = none := by decide +kernel

/-- A value inside the domain and one that is clamped, for both domains. -/
theorem witness_PlainParamResult :
    fresh.instValid = true ∧ numOperand 0x3F000000 0 1 = some (1/2) ∧ numOperand 0xFF800000 0 1 = some 0 ∧
      numOperand 0x40A00000 0 2 = some 2 := by decide +kernel

theorem witness_VoiceFanoutParamResult :
    playing.instValid = true ∧ numOperand 0x3FC00000 0 2 = some (3/2) ∧ numOperand 0x3FC00000 0 1 = some 1 := by
  decide +kernel

theorem witness_SharedSmootherParamResult :
    fresh.instValid = true ∧ numOperand 0x3F800000 0 1 = some 1 ∧ numOperand 0xBF800000 0 1 = some 0 := by
  decide +kernel

/-- A value that changes the tag of `fresh` and one that does not. -/
theorem witness_LfoTrigModeResult :
    fresh.instValid = true ∧ numOperand 0x3F800000 0 1 = some 1 ∧ tag fresh.eng.params[20] 2 ≠ tag 1 2 ∧
      numOperand 0x3E800000 0 1 = some (1/4) ∧ tag fresh.eng.params[20] 2 = tag (1/4) 2 := by decide +kernel

theorem witness_GetpResult : fresh.instValid = true ∧ 25 < 26 ∧ 25 < 255 := by decide

theorem witness_VolumeAndOctaveResults :
    fresh.instValid = true ∧ numOperand 0x40400000 0 1 = some 1 ∧ fresh.cfg.octMin ≤ fresh.cfg.octMax := by
  decide +kernel

theorem witness_Binary32RoundTrip :
    f32Decode 0x3FB33333 = .fin (11744051 / 8388608) ∧ f32Decode 0x80000000 = .fin 0 := by decide +kernel

/-! ### Configurations and invariants -/

theorem binary32_of_encode {q : NUM} (h : f32Decode (f32Encode q) = .fin q) : IsBinary32 q := ⟨_, h⟩

/-- A table of two breakpoints is a straight line. -/
theorem curve_line {n : Numerics} (hn : n.carrier = .rational) (a b u : NUM) (h0 : 0 ≤ u) (h1 : u ≤ 1) :
    curve n (.points [(0, a), (1, b)]) u = a + (b - a) * u := by
  have hu : clamp u 0 1 = u := by
    unfold clamp
    rw [if_neg (not_lt.mpr h0), if_neg (not_lt.mpr h1)]
  simp [curve, curveAt, lin, hu, Numerics.add_of_rational hn, Numerics.sub_of_rational hn, Numerics.mul_of_rational hn,
    Numerics.div_of_rational hn]

theorem line_shaped (a b : NUM) : curveShaped (.points [(0, a), (1, b)]) := by
  simp [curveShaped, tableShape]

/-- The reference configuration meets the rules. -/
theorem witness_config_rules : Config.reference.MeetsRules where
  num_sound h := absurd rfl h
  default_domain := by decide +kernel
  default_binary32 := by
    have h : ∀ i : Fin 26, f32Decode (f32Encode Config.reference.paramDefault[i]) =
        .fin Config.reference.paramDefault[i] := by decide +kernel
    exact fun i => binary32_of_encode (h i)
  default_attack := by decide +kernel
  default_gain := by decide +kernel
  default_level := by decide +kernel
  scenario_a := ⟨fun _ _ => 0, 2, by decide, by decide +kernel, 0xFFFBFFFB, by decide +kernel, by decide⟩
  volume_domain := by decide +kernel
  volume_binary32 := binary32_of_encode (by decide +kernel)
  oct_range := by decide +kernel
  octave_domain := by decide +kernel
  masterGain_nonneg := by decide +kernel
  smoothCoef_range := by decide +kernel
  attack_table := ⟨line_shaped _ _, fun u h0 h1 => by rw [Config.reference, curve_line rfl _ _ _ h0 h1]; linarith,
    by decide +kernel, by decide +kernel⟩
  decay_table := ⟨line_shaped _ _, fun u h0 h1 => by rw [Config.reference, curve_line rfl _ _ _ h0 h1]; linarith,
    by decide +kernel, by decide +kernel⟩
  sustain_table := ⟨line_shaped _ _, fun u h0 h1 => by
    rw [Config.reference, curve_line rfl _ _ _ h0 h1]; constructor <;> linarith⟩
  lfoRate_table := ⟨line_shaped _ _, fun u h0 h1 => by
    rw [Config.reference, curve_line rfl _ _ _ h0 h1, Config.fs]; constructor <;> linarith⟩
  lfoDelay_table := ⟨line_shaped _ _, fun u h0 h1 => by rw [Config.reference, curve_line rfl _ _ _ h0 h1]; linarith⟩
  lfoAttack_table := ⟨line_shaped _ _, fun u h0 h1 => by rw [Config.reference, curve_line rfl _ _ _ h0 h1]; linarith⟩
  hpf_table := ⟨line_shaped _ _, fun u h0 h1 => by rw [Config.reference, curve_line rfl _ _ _ h0 h1]; linarith⟩
  hpf_corner _ := ⟨fun u h0 h1 => by rw [Config.reference, curve_line rfl _ _ _ h0 h1]; linarith,
    fun u v h0 h h1 => by
      rw [Config.reference, curve_line rfl _ _ _ h0 (by linarith), curve_line rfl _ _ _ (by linarith) h1]; linarith,
    by decide +kernel⟩
  vca_table := ⟨line_shaped _ _, fun u h0 h1 => by
    rw [Config.reference, curve_line rfl _ _ _ h0 h1]; constructor <;> linarith⟩
  thresholds := by decide +kernel
  cutoff_range := by decide +kernel
  resK_nonneg := by decide +kernel
  chorus_taps := by decide +kernel
  env_kernel h := absurd rfl h
  osc_width _ := by decide +kernel
  osc_kernel h := absurd rfl h
  vcf_kernel h := absurd rfl h
  lfo_kernel h := absurd rfl h
  hpf_kernel h := absurd rfl h
  soft_clip h := absurd rfl h
  chorus_kernel h := absurd rfl h

/-- Exact arithmetic keeps the bend in [-7, 7). -/
theorem bend_in_range {n : Numerics} (hn : n.carrier = .rational) (b : Nat) :
    -7 ≤ bendSemitones n b ∧ bendSemitones n b < 7 := by
  have h1 : ((min b 16383 : Nat) : NUM) ≤ 16383 := by exact_mod_cast Nat.min_le_right b 16383
  have h0 : (0 : NUM) ≤ ((min b 16383 : Nat) : NUM) := Nat.cast_nonneg _
  simp only [bendSemitones, Numerics.mul_of_rational hn, Numerics.div_of_rational hn, Config.bendMax,
    Config.bendCentre, Config.bendDiv, Config.bendRange, Int.cast_sub, Int.cast_natCast, Int.cast_ofNat]
  constructor <;> linarith

/-- The reference configuration is admissible. -/
theorem witness_config_valid : Config.reference.Valid where
  rules := witness_config_rules
  bend_range := bend_in_range rfl

/-- A block that computes in binary32 meets the rules too, in exact arithmetic. -/
theorem witness_binary32_rules : ({ Config.reference with num := binary32 } : Config).exact.MeetsRules :=
  witness_config_rules

theorem playing_params : playing.ParamsInDomain := by
  intro _ i
  have h : ∀ i : Fin 26, 0 ≤ playing.eng.params[i] ∧ playing.eng.params[i] ≤ paramHi i ∧
      f32Decode (f32Encode playing.eng.params[i]) = .fin playing.eng.params[i] := by decide +kernel
  exact ⟨(h i).1, (h i).2.1, binary32_of_encode (h i).2.2⟩

theorem playing_controls : playing.ControlsInRange := by
  intro _
  exact ⟨⟨by decide +kernel, by decide +kernel, binary32_of_encode (by decide +kernel)⟩, by decide +kernel,
    by decide +kernel⟩

theorem playing_voices : playing.VoicesConsistent := by
  intro _ k
  unfold Voice.Consistent
  by_cases hk : k = 0
  · subst hk
    rw [if_pos (by decide +kernel)]
    exact ⟨⟨60, by decide +kernel⟩, by decide +kernel⟩
  · have h : ∀ k : Fin 6, k ≠ 0 → (playing.eng.voices[k]).active = false ∧ (playing.eng.voices[k]).note = none ∧
        (playing.eng.voices[k]).envA = envShutdown playing.cfg ∧
        (playing.eng.voices[k]).envG = envShutdown playing.cfg := by
      decide +kernel
    rw [if_neg (by rw [(h k hk).1]; decide)]
    exact (h k hk).2

theorem playing_targets : playing.TargetsAgree := by
  unfold State.TargetsAgree
  decide +kernel

theorem playing_lfo : playing.LfoConsistent := by
  unfold State.LfoConsistent
  decide +kernel

theorem playing_numbers : playing.NumbersInRange := by
  intro _
  refine ⟨?_, ?_, ?_, by unfold HpfState.InRange; decide +kernel, ?_⟩
  · unfold Voice.InRange OscState.InRange VcfState.InRange EnvState.InRange Smoother.InUnit
    decide +kernel
  · unfold Smoother.InUnit
    decide +kernel
  · unfold LfoState.InRange
    decide +kernel
  · unfold ChorusState.InRange
    decide +kernel

/-- A sounding voice, and `NOTEON 62, 1.0` on the command port. -/
def busy : State := { playing with cmdPort := [0x103E00003F800000] }

/-- The step of `busy` completes. -/
theorem busy_steps : ∃ t, step busy = .next t := by
  have h : numOperand 0x3F800000 0 1 = some 1 := by decide +kernel
  have hd : decode 0x103E00003F800000 = .instr (.noteon 62 0x3F800000) := by decide
  have hv : ({ busy with cmdPort := [] } : State).instValid = true := by decide
  rw [step, State.takeCommand_cons (w := 0x103E00003F800000) (ws := []) rfl]
  simp only [runDecoded, hd, exec, execNoteon]
  rw [withInstance_of_valid hv, withNum_of_some h]
  exact ⟨_, rfl⟩

/-- An instance with a sounding voice meets all the invariants, and steps. -/
theorem witness_StepKeepsRegistersInDomain :
    busy.cfg.Valid ∧ busy.ParamsInDomain ∧ busy.ControlsInRange ∧ busy.instValid = true ∧
      ∃ t, step busy = .next t :=
  ⟨witness_config_valid, playing_params, playing_controls, rfl, busy_steps⟩

theorem witness_StepKeepsVoicesConsistent :
    busy.VoicesConsistent ∧ busy.instValid = true ∧ ∃ t, step busy = .next t :=
  ⟨playing_voices, rfl, busy_steps⟩

theorem witness_StepKeepsTargetsAgreed : busy.TargetsAgree ∧ busy.instValid = true ∧ ∃ t, step busy = .next t :=
  ⟨playing_targets, rfl, busy_steps⟩

theorem witness_StepKeepsLfoConsistent : busy.LfoConsistent ∧ busy.instValid = true ∧ ∃ t, step busy = .next t :=
  ⟨playing_lfo, rfl, busy_steps⟩

theorem witness_StepKeepsNumbersInRange :
    busy.cfg.Valid ∧ busy.cfg.num.carrier = .rational ∧ busy.NumbersInRange ∧ busy.instValid = true ∧
      ∃ t, step busy = .next t :=
  ⟨witness_config_valid, rfl, playing_numbers, rfl, busy_steps⟩

theorem witness_ReadBackIsLossless : playing.instValid = true ∧ playing.ParamsInDomain ∧ playing.TargetsAgree :=
  ⟨rfl, playing_params, playing_targets⟩

theorem witness_PresetIsIdempotent : fresh.instValid = true := by decide

/-! ### Rendering and units -/

theorem witness_RenderIsFrameByFrame : playing.instValid = true := by decide

/-- An active and an inactive voice. -/
theorem witness_RenderLeaves :
    playing.instValid = true ∧ (playing.eng.voices[0]).active = true ∧ (playing.eng.voices[1]).active = false := by
  decide +kernel

theorem witness_RenderOneFrame :
    playing.instValid = true ∧ playing.cfg.num.carrier = .rational ∧ (playing.eng.voices[0]).active = true ∧
      playing.cfg.pwmSource = .reference := by
  decide +kernel

/-- The whole block of 256 frames and the empty one; slot 1 inactive before; slot 0 still active after the first part
of one frame, and, let go at level 0, ended by it. -/
theorem witness_SplitBlockRendersTheSame :
    playing.instValid = true ∧ playing.cfg.num.carrier = .rational ∧ 1 + 255 ≤ 256 ∧ 0 + 256 ≤ 256 ∧ (playing.eng.voices[1]).active = false ∧
      ((after (.render 1) playing).eng.voices[0]).active = true ∧
      ((after (.noteoff 60) playing).eng.voices[0]).active = true ∧
      ((after (.render 1) (after (.noteoff 60) playing)).eng.voices[0]).active = false := by decide +kernel

theorem witness_RenderOfNoFrames :
    (playing.instValid = true ∧ playing.VoicesConsistent) ∧ State.reset.instValid = false :=
  ⟨⟨rfl, playing_voices⟩, rfl⟩

theorem witness_FreshInstanceIsSilent :
    (State.reset.cfg.hpfKernel = .reference ∧ State.reset.cfg.softClip = .reference ∧
      State.reset.cfg.chorusKernel = .reference) ∧ State.reset.cfg.Valid ∧ State.reset.cfg.num.carrier = .rational :=
  ⟨⟨rfl, rfl, rfl⟩, witness_config_valid, rfl⟩

theorem witness_ScenarioAFirstFrames : State.reset.cfg = Config.reference := rfl

theorem witness_DrawsReachOnlyNoise :
    playing.cfg.lfoWave = .triangle ∧ playing.cfg.oscKernel = .reference ∧ ∀ k : Fin 6, (playing.eng.voices[k]).osc.noise = { y := 0, t := 0 } := by
  decide +kernel

theorem witness_RenderOutputIsBounded :
    playing.cfg.Valid ∧ playing.cfg.num.carrier = .rational ∧ playing.instValid = true ∧ playing.NumbersInRange ∧
      (renderBlock playing.cfg (fun _ _ => 0) 0 1 playing.eng).out ≠ [] :=
  ⟨witness_config_valid, rfl, rfl, playing_numbers, by decide +kernel⟩

/-- Full scale above and below, the two roundings' middle, an overflow either way and a NaN in binary32, and the gain
1 at both ends of [-1, 1]. -/
theorem witness_PcmConversion :
    let loud : Config := { Config.reference with num := binary32, masterGain := 2 ^ 120 }
    Config.reference.num.carrier = .rational ∧
      pcmScaled .reference 1 (.fin 1) = .fin 32767 ∧ pcmScaled .reference 1 (.fin (-32768 / 32767)) = .fin (-32768) ∧
      pcmScaled .reference 1 (.fin (1/2)) = .fin (32767/2) ∧ (-32768 : NUM) < 32767/2 ∧ (32767/2 : NUM) < 32767 ∧
      Config.reference.pcmRound = .truncate ∧
      ({ Config.reference with pcmRound := .nearest } : Config).pcmRound = .nearest ∧
      pcmScaled loud 1 (.fin 1) = .posInf ∧ pcmScaled loud 1 (.fin (-1)) = .negInf ∧ pcmScaled loud 0 .posInf = .nan ∧
      (loud.num.toCarrier loud.masterGain).sign = 1 ∧ (loud.num.toCarrier 1).sign = 1 ∧
      0 ≤ Config.reference.masterGain * 1 ∧ Config.reference.masterGain * 1 ≤ 1 ∧ |(-1 : NUM)| ≤ 1 := by
  decide +kernel

/-- The gate configuration, an envelope at each end of the range; a release from the sustain level; and every stage left
as it was by an advance. -/
theorem witness_EnvelopeAdvanceConstraints :
    EnvAdmissible Config.gateEnv ∧ Config.reference.num.carrier = .rational ∧ 0 ≤ Config.reference.envIdleEps ∧
      ({ stage := .attack, level := 0, aux := [] } : EnvState).InRange ∧
      ({ stage := .release, level := 1, aux := [] } : EnvState).InRange ∧
      Config.reference.envKernel = .reference ∧ 0 < Config.gateEnv.releaseS ∧
      ({ stage := .release, level := 49/50, aux := [] } : EnvState).stage = .release ∧ (0 : NUM) ≤ 49/50 ∧
      (∀ stage ∈ [EnvStage.idle, .decay, .sustain, .release], (envAdvance .reference { Config.gateEnv with sustain := 1/2 }
        { stage := stage, level := 99/100, aux := [] }).stage = stage) ∧
      (envAdvance .reference Config.gateEnv { stage := .attack, level := 0, aux := [] }).stage = .attack := by
  unfold EnvState.InRange EnvAdmissible
  decide +kernel

theorem witness_SmootherClosedForm : Config.reference.num.carrier = .rational := rfl

theorem witness_VoiceKernelsMeetTheirRules : Config.reference.Valid := witness_config_valid

theorem witness_SharedKernelsMeetTheirRules : Config.reference.Valid := witness_config_valid

/-- Each stage; a delay not over at count 0 and over at count 132300; a ramp-in longer than a sample. -/
theorem witness_LfoAdvanceResult :
    let p := Config.reference.paramDefault
    Config.reference.lfoKernel = .reference ∧ Config.reference.num.carrier = .rational ∧ (lfoShutdown .reference).stage = .off ∧
      (lfoNoteOn (lfoShutdown .reference)).stage = .delay ∧
      ((0 : Nat) : NUM) < curve .reference Config.reference.ctLfoDelay (p.set 22 1)[22] * 44100 ∧
      curve .reference Config.reference.ctLfoDelay (p.set 22 1)[22] * 44100 ≤ ((132300 : Nat) : NUM) ∧
      (lfoAdvance .reference p 0 (lfoNoteOn (lfoShutdown .reference))).stage = .attack ∧
      ({ lfoShutdown .reference with stage := .run } : LfoState).stage = .run ∧
      0 < curve .reference Config.reference.ctLfoAttack p[22] * 44100 := by decide +kernel

/-- A table of three breakpoints: its second segment at both ends, and arguments outside [0, 1]. -/
theorem witness_CurveIsPiecewiseLinear :
    Numerics.reference.carrier = .rational ∧ tableShape [(0, 1), (1/2, 3), (1, 2)] ∧
      ([(0, 1), (1/2, 3), (1, 2)] : Breakpoints) = [(0, 1)] ++ (1/2, 3) :: (1, 2) :: [] ∧
      ((1/2 : NUM) ≤ 1/2 ∧ (1/2 : NUM) ≤ 1) ∧ (-1 : NUM) ≤ 0 ∧ (1 : NUM) ≤ 2 := by
  unfold tableShape
  decide +kernel

/-- The reference line after `CREATE`, and exactly CH_LEN frames. -/
theorem witness_ChorusLineEmpties :
    Config.reference.chorusKernel = .reference ∧ (initialChorus .reference).line.length = Config.reference.chLen ∧
      (initialChorus .reference).w < Config.reference.chLen ∧ Config.reference.chLen ≤ 512 := by decide +kernel

theorem witness_CutoffFormula :
    Config.reference.Valid ∧ Config.reference.num.carrier = .rational ∧ (0 : NUM) ≤ 0 ∧ (0 : NUM) ≤ 1 ∧
      (0 : NUM) ≤ 1/2 :=
  ⟨witness_config_valid, rfl, by norm_num⟩

theorem witness_NumericLaws :
    Config.reference.num = .reference ∧ Config.reference.softClip = .reference ∧ (-1/2 : NUM) ≤ 1/3 :=
  ⟨rfl, rfl, by norm_num⟩

theorem witness_SinAccuracy : |(8 : NUM)| ≤ 8 ∧ |(-8 : NUM)| ≤ 8 := by norm_num

end Sys2Proof.Tests
end

/-! SUPPORT. The scope of the model: one step, the note-on. -/

namespace Sys2Proof.Proofs

open Sys2Proof.Machine

/-! ## The step (R12, R24, R66, R110) -/

/-- With a word waiting, a step runs what it decodes to. -/
theorem step_of_cons {s : State} {w : Word64} {rest : List Word64} (h : s.cmdPort = w :: rest) :
    step s = runDecoded (decode w) { s with cmdPort := rest } := by
  rw [step, State.takeCommand_cons h]

/-- With no word waiting, a step changes nothing. -/
theorem step_of_nil {s : State} (h : s.cmdPort = []) : step s = .next s := by
  rw [step, State.takeCommand_nil h]

/-- Settles O7: one equation of `step` per form of the command port, then one of `runDecoded` per decoded word. -/
theorem stepRunsTheDecodedCommand : Obligations.StepRunsTheDecodedCommand := by
  intro s
  refine ⟨fun w rest hport => ⟨fun i hd => ?_, fun op hd => ?_, fun a hd => ?_⟩, step_of_nil⟩ <;>
    rw [step_of_cons hport, hd, runDecoded]

/-! ## NOTEON (R126, R130, R131, R191, R215, R264) -/

/-- A clamp of integers as a minimum and a maximum. -/
theorem clampInt_eq_max_min {v lo hi : Int} (h : lo ≤ hi) : clampInt v lo hi = max lo (min hi v) := by
  unfold clampInt
  split_ifs <;> omega

/-- The transposed note written out (R126). -/
theorem transposedNote_eq (octave : Int) (a : Nat) :
    transposedNote octave a = (max 0 (min 127 ((a : Int) + 12 * octave))).toNat := by
  rw [transposedNote, clampInt_eq_max_min (by decide)]
  rfl

/-- The frequency of a note under a bend, written out (R11, R130). -/
theorem tunedFreq_eq (num : Numerics) (n : Nat) (b : NUM) :
    tunedFreq num n b =
      num.mul (num.mul 440 (exp2 num (num.div ((n : NUM) - 69) 12))) (exp2 num (num.div b 12)) := by
  simp only [tunedFreq, baseFreq, bendMulOf, Config.a4Hz, Config.a4Note, Config.semitones]
  push_cast
  rfl

/-- A struck envelope: Attack, from the present level or from 0 as ENV_RETRIG says (R191). -/
theorem envNoteOn_eq (c : Config) (e : EnvState) :
    envNoteOn c e = { e with stage := .attack, level := if c.envRetrig = .zero then 0 else e.level } := by
  unfold envNoteOn
  cases c.envRetrig <;> rfl

/-- A voice sounds if it is active and not released (R127). -/
theorem sounding_iff (c : Config) (v : Voice) :
    sounding c v = true ↔ v.active = true ∧ envReleased c (currentEnv v) = false := by
  simp [sounding]

theorem mem_slots (k : Fin 6) : k ∈ slots := by
  revert k; decide

/-- No other voice sounds: the negation of `others` of R130. -/
theorem othersSounding_eq_false_iff (c : Config) (vs : Vector Voice 6) (k : Fin 6) :
    othersSounding c vs k = false ↔
      ∀ j : Fin 6, j ≠ k → ¬((vs[j]).active = true ∧ envReleased c (currentEnv vs[j]) = false) := by
  simp only [← sounding_iff, othersSounding, List.any_eq_false, Bool.and_eq_true, bne_iff_ne, not_and]
  exact ⟨fun h j => h j (mem_slots j), fun h j _ => h j⟩

/-- LFO_TRIG is Auto exactly if the tag of P[20] is 0 (R23). -/
theorem lfoTrigAuto_iff (p : Vector NUM 26) : lfoTrigAuto p = true ↔ tag p[20] 2 = 0 := by
  simp [lfoTrigAuto]

/-- What NOTEON does where one is created, with a velocity that has a value. -/
theorem exec_noteon_of_some {s : State} {note : Nat} {v : Word32} {vel : NUM} (hs : s.instValid = true)
    (hv : numOperand v 0 1 = some vel) :
    exec (.noteon note v) s =
      .next ((s.setEng (noteOnEngine s.cfg s.eng (transposedNote s.eng.octave note) vel)).ok opNoteon) := by
  rw [exec, execNoteon, withInstance_of_valid hs, withNum_of_some hv]

/-- Settles O16: the engine after a note-on, each of its operations replaced by what its rule writes out. -/
theorem noteonResult : Obligations.NoteonResult := by
  intro s note v vel hs hv k u n num struck
  have hlfo : (lfoTrigAuto s.eng.params && !othersSounding s.cfg s.eng.voices k) = true ↔
      tag s.eng.params[20] 2 = 0 ∧ ∀ j : Fin 6, j ≠ k → ¬((s.eng.voices[j]).active = true ∧
        envReleased s.cfg (currentEnv s.eng.voices[j]) = false) := by
    rw [Bool.and_eq_true, lfoTrigAuto_iff, Bool.not_eq_true', othersSounding_eq_false_iff]
  rw [exec_noteon_of_some hs hv, transposedNote_eq]
  simp only [noteOnEngine, strikeVoice, tunedFreq_eq, envNoteOn_eq]
  simp only [← hlfo]
  rfl

end Sys2Proof.Proofs

/-! SUPPORT. binary32 (R9, R88): what a pattern stands for, and the encoder as its inverse. -/

namespace Sys2Proof.Proofs

open Sys2Proof.Machine

/-! ## Powers of two -/

theorem pow2_eq_zpow (k : Int) : pow2 k = (2 : NUM) ^ k := by
  cases k with
  | ofNat n => simp [pow2]
  | negSucc n => simp [pow2, zpow_negSucc]

/-! ## The fields of a pattern -/

/-- The exponent field of a pattern. -/
def patExp (v : Word32) : Nat := (v.extractLsb' 23 8).toNat

/-- The fraction field of a pattern. -/
def patFrac (v : Word32) : Nat := (v.extractLsb' 0 23).toNat

/-- The sign of a pattern as a factor. -/
def patSign (v : Word32) : NUM := if v.getLsbD 31 = true then -1 else 1

/-- The significand of a finite pattern, the hidden bit included. -/
def patSig (v : Word32) : Nat := if patExp v = 0 then patFrac v else 2 ^ 23 + patFrac v

/-- The magnitude of a finite pattern: its significand in units of the last place. -/
def patMag (v : Word32) : NUM := (patSig v : NUM) * 2 ^ (((patExp v - 1 : Nat) : Int) - 149)

theorem patExp_eq (v : Word32) : patExp v = v.toNat / 2 ^ 23 % 2 ^ 8 := by
  rw [patExp, BitVec.extractLsb'_toNat, Nat.shiftRight_eq_div_pow]

theorem patFrac_eq (v : Word32) : patFrac v = v.toNat % 2 ^ 23 := by
  rw [patFrac, BitVec.extractLsb'_toNat, Nat.shiftRight_zero]

theorem signBit_eq (v : Word32) : v.getLsbD 31 = (v.toNat / 2 ^ 31 == 1) := by
  have hq : v.toNat / 2 ^ 31 < 2 := by have := v.isLt; omega
  rw [BitVec.getLsbD, Nat.testBit_eq_decide_div_mod_eq, Nat.mod_eq_of_lt hq]
  rfl

/-- A pattern is its sign bit above its exponent and significand. -/
theorem toNat_eq_fields (v : Word32) :
    v.toNat = (if v.getLsbD 31 = true then 2 ^ 31 else 0) + ((patExp v - 1) * 2 ^ 23 + patSig v) := by
  have hv : v.toNat < 2 ^ 32 := v.isLt
  simp only [signBit_eq, beq_iff_eq, patSig, patExp_eq, patFrac_eq]
  split_ifs <;> omega

/-- A significand has its hidden bit unless the exponent is the least. -/
theorem patSig_normal (v : Word32) : patExp v - 1 = 0 ∨ 2 ^ 23 ≤ patSig v := by
  unfold patSig
  split_ifs <;> omega

theorem patMag_of_exp_zero {v : Word32} (h : patExp v = 0) :
    patMag v = (2 : NUM) ^ (-126 : Int) * ((patFrac v : NUM) / 2 ^ 23) := by
  rw [patMag, patSig, if_pos h, h]
  norm_num
  ring

theorem patMag_of_exp_pos {v : Word32} (h : patExp v ≠ 0) :
    patMag v = (2 : NUM) ^ ((patExp v : Int) - 127) * (1 + (patFrac v : NUM) / 2 ^ 23) := by
  have hk : ((patExp v - 1 : Nat) : Int) - 149 = ((patExp v : Int) - 127) - 23 := by omega
  rw [patMag, patSig, if_neg h, hk, zpow_sub₀ two_ne_zero]
  push_cast
  norm_num
  ring

theorem patMag_nonneg (v : Word32) : 0 ≤ patMag v := by unfold patMag; positivity

/-- `f32Decode` in the fields of the pattern: a number below exponent 255, else an infinity or a NaN. -/
theorem f32Decode_eq (v : Word32) :
    f32Decode v =
      if patExp v = 255 then
        if patFrac v ≠ 0 then .nan else if v.getLsbD 31 = true then .negInf else .posInf
      else .fin (patSign v * patMag v) := by
  have hmag : patMag v = if patExp v = 0 then pow2 (-149) * (patFrac v : NUM)
      else pow2 ((patExp v : Int) - 150) * ((2 ^ 23 + patFrac v : Nat) : NUM) := by
    split_ifs with h
    · rw [patMag, patSig, if_pos h, h, pow2_eq_zpow, mul_comm]
      norm_num
    · have hk : ((patExp v - 1 : Nat) : Int) - 149 = (patExp v : Int) - 150 := by omega
      rw [patMag, patSig, if_neg h, hk, pow2_eq_zpow, mul_comm]
  rw [patSign, f32Decode, ← patExp_eq, ← patFrac_eq, ← signBit_eq]
  simp only [← hmag]
  cases v.getLsbD 31 <;> simp

/-! ## NUM operands (R11, R88) -/

/-- `clamp` as a minimum and a maximum. -/
theorem clamp_eq_max_min {x lo hi : NUM} (h : lo ≤ hi) : clamp x lo hi = max lo (min hi x) := by
  unfold clamp
  split_ifs with h1 h2
  · rw [min_eq_right (h1.le.trans h), max_eq_left h1.le]
  · rw [min_eq_left h2.le, max_eq_right h]
  · rw [min_eq_right (not_lt.mp h2), max_eq_right (not_lt.mp h1)]

/-- A finite pattern is an operand that is clamped. -/
theorem numOperand_of_fin {v : Word32} {lo hi : NUM} (h : lo ≤ hi) (he : patExp v ≠ 255) :
    numOperand v lo hi = some (max lo (min hi (patSign v * patMag v))) := by
  rw [numOperand, f32Decode_eq, if_neg he, ← clamp_eq_max_min h]

/-- An infinity goes to the nearer bound. -/
theorem numOperand_of_inf {v : Word32} (lo hi : NUM) (he : patExp v = 255) (hf : patFrac v = 0) :
    numOperand v lo hi = some (if v.getLsbD 31 = true then lo else hi) := by
  rw [numOperand, f32Decode_eq, if_pos he, if_neg (not_not.mpr hf)]
  cases v.getLsbD 31 <;> rfl

/-- Only the NaN patterns have no value. -/
theorem numOperand_eq_none_iff (v : Word32) (lo hi : NUM) :
    numOperand v lo hi = none ↔ patExp v = 255 ∧ patFrac v ≠ 0 := by
  rw [numOperand, f32Decode_eq]
  split_ifs <;> simp_all

/-- Settles O23: one lemma per class of patterns. -/
theorem numOperandValues : Obligations.NumOperandValues := by
  intro v lo hi hlh e f sgn
  refine ⟨fun h1 h254 => ?_, fun h0 => ?_, numOperand_of_inf lo hi, numOperand_eq_none_iff v lo hi⟩
  · have h255 : patExp v ≠ 255 := by change e ≠ 255; omega
    have h0 : patExp v ≠ 0 := by change e ≠ 0; omega
    rw [numOperand_of_fin hlh h255, patMag_of_exp_pos h0, ← mul_assoc]
    rfl
  · have h0 : patExp v = 0 := h0
    rw [numOperand_of_fin hlh (by omega), patMag_of_exp_zero h0, ← mul_assoc]
    rfl

/-! ## The encoder -/

/-- `floorLog2` is the exponent of the quotient: `2^e ≤ n/d < 2^(e+1)`. -/
theorem floorLog2_spec {n d : Nat} (hn : n ≠ 0) (hd : d ≠ 0) :
    (2 : NUM) ^ floorLog2 n d ≤ (n : NUM) / d ∧ (n : NUM) / d < (2 : NUM) ^ (floorLog2 n d + 1) := by
  have hd0 : (0 : NUM) < d := by exact_mod_cast Nat.pos_of_ne_zero hd
  have hn1 : (2 : NUM) ^ (Nat.log2 n : Int) ≤ n := by exact_mod_cast Nat.log2_self_le hn
  have hn2 : (n : NUM) < 2 ^ ((Nat.log2 n : Int) + 1) := by exact_mod_cast Nat.lt_log2_self (n := n)
  have hd1 : (2 : NUM) ^ (Nat.log2 d : Int) ≤ d := by exact_mod_cast Nat.log2_self_le hd
  have hd2 : (d : NUM) < 2 ^ ((Nat.log2 d : Int) + 1) := by exact_mod_cast Nat.lt_log2_self (n := d)
  set e : Int := (Nat.log2 n : Int) - (Nat.log2 d : Int) with he
  have hup : (n : NUM) / d < 2 ^ (e + 1) := by
    rw [div_lt_iff₀ hd0]
    calc (n : NUM) < 2 ^ ((Nat.log2 n : Int) + 1) := hn2
      _ = 2 ^ (e + 1) * 2 ^ (Nat.log2 d : Int) := by rw [← zpow_add₀ two_ne_zero]; congr 1; omega
      _ ≤ 2 ^ (e + 1) * d := by gcongr
  have hlow : (2 : NUM) ^ (e - 1) ≤ n / d := by
    rw [le_div_iff₀ hd0]
    calc (2 : NUM) ^ (e - 1) * d ≤ 2 ^ (e - 1) * 2 ^ ((Nat.log2 d : Int) + 1) := by gcongr
      _ = 2 ^ (Nat.log2 n : Int) := by rw [← zpow_add₀ two_ne_zero]; congr 1; omega
      _ ≤ n := hn1
  have htest : n * 2 ^ (-e).toNat < d * 2 ^ e.toNat ↔ (n : NUM) / d < 2 ^ e := by
    have hsplit : (2 : NUM) ^ e = 2 ^ e.toNat / 2 ^ (-e).toNat := by
      rw [← zpow_natCast, ← zpow_natCast, ← zpow_sub₀ two_ne_zero]; congr 1; omega
    rw [hsplit, div_lt_div_iff₀ hd0 (by positivity), mul_comm ((2 : NUM) ^ _)]
    exact_mod_cast Iff.rfl
  unfold floorLog2
  simp only [← he, htest]
  split_ifs with h
  · exact ⟨hlow, by rwa [sub_add_cancel]⟩
  · exact ⟨not_lt.mp h, hup⟩

/-- Rounding a whole quotient does nothing. -/
theorem roundHalfEven_mul_right (m : Nat) {d : Nat} (hd : 0 < d) : roundHalfEven (m * d) d = m := by
  simp [roundHalfEven, hd]

/-- The encoder puts a significand `m` at scale `k` back where the fields hold it. -/
theorem f32Magnitude_of_eq {n d m k : Nat} (hn : n ≠ 0) (hd : d ≠ 0) (hm : m < 2 ^ 24) (hk : k ≤ 253)
    (hnorm : k = 0 ∨ 2 ^ 23 ≤ m) (h : (n : NUM) / d = m * 2 ^ ((k : Int) - 149)) :
    f32Magnitude n d = k * 2 ^ 23 + m := by
  obtain ⟨hlow, hup⟩ := floorLog2_spec hn hd
  rw [h] at hlow hup
  have he : max (floorLog2 n d) (-126) = (k : Int) - 126 := by
    have hle : floorLog2 n d ≤ (k : Int) - 126 := by
      have hlt : (2 : NUM) ^ floorLog2 n d < 2 ^ ((k : Int) - 125) := by
        calc (2 : NUM) ^ floorLog2 n d ≤ m * 2 ^ ((k : Int) - 149) := hlow
          _ < 2 ^ (24 : Int) * 2 ^ ((k : Int) - 149) := by gcongr; exact_mod_cast hm
          _ = 2 ^ ((k : Int) - 125) := by rw [← zpow_add₀ two_ne_zero]; congr 1; omega
      have := (zpow_lt_zpow_iff_right₀ (one_lt_two (α := NUM))).mp hlt
      omega
    rcases hnorm with rfl | hm23
    · omega
    · have hlt : (2 : NUM) ^ ((k : Int) - 126) < 2 ^ (floorLog2 n d + 1) := by
        calc (2 : NUM) ^ ((k : Int) - 126) = 2 ^ (23 : Int) * 2 ^ ((k : Int) - 149) := by
              rw [← zpow_add₀ two_ne_zero]; congr 1; omega
          _ ≤ m * 2 ^ ((k : Int) - 149) := by gcongr; exact_mod_cast hm23
          _ < 2 ^ (floorLog2 n d + 1) := hup
      have := (zpow_lt_zpow_iff_right₀ (one_lt_two (α := NUM))).mp hlt
      omega
  have hmul : n * 2 ^ (149 - (k : Int)).toNat = m * (d * 2 ^ ((k : Int) - 149).toNat) := by
    have hd0 : (d : NUM) ≠ 0 := by exact_mod_cast hd
    have hsplit : (2 : NUM) ^ ((k : Int) - 149) = 2 ^ ((k : Int) - 149).toNat / 2 ^ (149 - (k : Int)).toNat := by
      rw [← zpow_natCast, ← zpow_natCast, ← zpow_sub₀ two_ne_zero]; congr 1; omega
    rw [hsplit] at h
    field_simp at h
    have h' : (n : NUM) * 2 ^ (149 - (k : Int)).toNat = m * (d * 2 ^ ((k : Int) - 149).toNat) := by linarith
    exact_mod_cast h'
  have hsh : 23 - ((k : Int) - 126) = 149 - k := by ring
  have hexp : ((k : Int) - 126 + 126).toNat = k := by omega
  simp only [f32Magnitude, if_neg hn, he, hsh, neg_sub, hmul, hexp]
  rw [roundHalfEven_mul_right m (by positivity)]
  omega

/-- The numerator and denominator of a number are those of its magnitude. -/
theorem natAbs_num_div_den (q : NUM) : (q.num.natAbs : NUM) / q.den = |q| := by
  rw [Nat.cast_natAbs, Int.cast_abs]
  nth_rw 3 [← Rat.num_div_den q]
  rw [abs_div, Nat.abs_cast]

/-- The encoder on the magnitude of a finite pattern. -/
theorem f32Magnitude_patMag {v : Word32} {q : NUM} (he : patExp v ≠ 255) (hq : |q| = patMag v) :
    f32Magnitude q.num.natAbs q.den = (patExp v - 1) * 2 ^ 23 + patSig v := by
  have hv := toNat_eq_fields v
  have hle : patExp v ≤ 255 := by rw [patExp_eq]; omega
  have hf : patFrac v < 2 ^ 23 := by rw [patFrac_eq]; omega
  have hsig : patSig v < 2 ^ 24 := by unfold patSig; split_ifs <;> omega
  have hnorm := patSig_normal v
  rw [← natAbs_num_div_den] at hq
  by_cases hn : q.num.natAbs = 0
  · have hsig0 : patSig v = 0 := by
      rw [hn, Nat.cast_zero, zero_div, patMag, eq_comm, mul_eq_zero] at hq
      exact_mod_cast hq.resolve_right (by positivity)
    have hexp0 : patExp v - 1 = 0 := by omega
    rw [f32Magnitude, if_pos hn, hsig0, hexp0, Nat.zero_mul]
  · exact f32Magnitude_of_eq hn q.den_nz hsig (by omega) hnorm hq

theorem patMag_eq_zero_iff (v : Word32) : patMag v = 0 ↔ patSig v = 0 := by
  rw [patMag, mul_eq_zero, Nat.cast_eq_zero, or_iff_left (by positivity)]

theorem abs_patSign_mul_patMag (v : Word32) : |patSign v * patMag v| = patMag v := by
  have hsign : |patSign v| = 1 := by unfold patSign; split_ifs <;> norm_num
  rw [abs_mul, hsign, one_mul, abs_of_nonneg (patMag_nonneg v)]

/-- The number of a finite pattern is negative where the sign bit is set and the magnitude is not 0. -/
theorem patSign_mul_patMag_neg_iff (v : Word32) :
    patSign v * patMag v < 0 ↔ v.getLsbD 31 = true ∧ patSig v ≠ 0 := by
  have hpos := patMag_nonneg v
  have hzero := patMag_eq_zero_iff v
  unfold patSign
  split_ifs with hs
  · rw [neg_one_mul, neg_lt_zero, hpos.lt_iff_ne', Ne, hzero, and_iff_right hs]
  · rw [one_mul, iff_false_left hpos.not_gt]
    exact fun h => hs h.1

/-- Settles O30: the sign and the magnitude are put back separately; minus zero alone loses its sign. -/
theorem binary32RoundTrip : Obligations.Binary32RoundTrip := by
  intro v q hdec
  rw [f32Decode_eq] at hdec
  split_ifs at hdec with he
  obtain rfl : patSign v * patMag v = q := F32.fin.inj hdec
  have hlt : v.toNat < 2 ^ 32 := v.isLt
  have hfields := toNat_eq_fields v
  have hnorm := patSig_normal v
  have hminus : v = 0x80000000 ↔ v.getLsbD 31 = true ∧ patSig v = 0 := by
    rw [← BitVec.toNat_inj, show (0x80000000 : Word32).toNat = 2 ^ 31 from rfl]
    by_cases hs : v.getLsbD 31 = true
    · rw [if_pos hs] at hfields; rw [and_iff_right hs]; omega
    · exact iff_of_false (fun h => hs (by rw [signBit_eq, h]; rfl)) fun h => hs h.1
  rw [f32Encode, f32Magnitude_patMag he (abs_patSign_mul_patMag v)]
  simp only [patSign_mul_patMag_neg_iff, hminus]
  by_cases hmz : v.getLsbD 31 = true ∧ patSig v = 0
  · have hexp : patExp v - 1 = 0 := by omega
    rw [if_pos hmz, if_neg fun h => h.2 hmz.2, hmz.2, hexp]
    rfl
  · have hsign : (v.getLsbD 31 = true ∧ patSig v ≠ 0) ↔ v.getLsbD 31 = true :=
      ⟨And.left, fun hs => ⟨hs, fun h => hmz ⟨hs, h⟩⟩⟩
    simp only [if_neg hmz, hsign, ← hfields, BitVec.ofNat_toNat, BitVec.setWidth_eq]

end Sys2Proof.Proofs

/-! SUPPORT. `exp2` at the reference precision (R9): its laws, and its distance from the real function. -/

namespace Sys2Proof.Proofs

open Sys2Proof.Machine

theorem floor_eq_intFloor (x : NUM) : Machine.floor x = ⌊x⌋ := rfl

/-! ## The mantissa -/

theorem one_le_expTail (one m k y : Nat) : one ≤ expTail one m k y := by
  cases m with
  | zero => exact le_rfl
  | succ m => exact Nat.le_add_right _ _

theorem expTail_mono {one m k y z : Nat} (h : y ≤ z) : expTail one m k y ≤ expTail one m k z := by
  induction m generalizing k with
  | zero => exact le_rfl
  | succ m ih => exact Nat.add_le_add_left (Nat.div_le_div_right (Nat.mul_le_mul h ih)) _

theorem exp2Mantissa_mono (n : Numerics) {i j : Nat} (h : i ≤ j) : exp2Mantissa n i ≤ exp2Mantissa n j :=
  expTail_mono (Nat.div_le_div_right (Nat.mul_le_mul_right _ h))

theorem exp2Mantissa_zero : exp2Mantissa .reference 0 = 2 ^ 64 := by decide +kernel

/-- Below a whole octave the mantissa is below 2. -/
theorem exp2Mantissa_lt {j : Nat} (h : j < 2 ^ 64) : exp2Mantissa .reference j < 2 ^ 65 :=
  calc exp2Mantissa .reference j ≤ exp2Mantissa .reference (2 ^ 64 - 1) := exp2Mantissa_mono _ (by omega)
    _ < 2 ^ 65 := by decide +kernel

/-- The fraction of a number, cut to 64 bits. -/
def fracBits (x : NUM) : Nat := ⌊(x - ⌊x⌋) * 2 ^ 64⌋.toNat

theorem fracBits_spec (x : NUM) :
    (fracBits x : NUM) ≤ (x - ⌊x⌋) * 2 ^ 64 ∧ (x - ⌊x⌋) * 2 ^ 64 < fracBits x + 1 := by
  have h0 : 0 ≤ (x - ⌊x⌋) * 2 ^ 64 := mul_nonneg (sub_nonneg.mpr (Int.floor_le x)) (by positivity)
  have hcast : ((fracBits x : Nat) : NUM) = ((⌊(x - ⌊x⌋) * 2 ^ 64⌋ : Int) : NUM) := by
    exact_mod_cast Int.toNat_of_nonneg (Int.floor_nonneg.mpr h0)
  rw [hcast]
  exact ⟨Int.floor_le _, Int.lt_floor_add_one _⟩

theorem fracBits_lt (x : NUM) : fracBits x < 2 ^ 64 := by
  have h : (fracBits x : NUM) < 2 ^ 64 := by linarith [(fracBits_spec x).1, Int.lt_floor_add_one x]
  exact_mod_cast h

theorem fracBits_intCast (k : Int) : fracBits k = 0 := by simp [fracBits]

theorem fracBits_add_one (x : NUM) : fracBits (x + 1) = fracBits x := by simp [fracBits]

theorem fracBits_mono {x y : NUM} (hf : ⌊x⌋ = ⌊y⌋) (h : x ≤ y) : fracBits x ≤ fracBits y := by
  have h' : (x - ⌊x⌋) * 2 ^ 64 ≤ (y - ⌊y⌋) * 2 ^ 64 := by rw [hf]; gcongr
  exact Int.toNat_le_toNat (Int.floor_le_floor h')

/-- The mantissa of `2^x`, in [1, 2). -/
def mantissa (x : NUM) : NUM := (exp2Mantissa .reference (fracBits x) : NUM) / 2 ^ 64

theorem one_le_mantissa (x : NUM) : 1 ≤ mantissa x := by
  rw [mantissa, one_le_div (by positivity)]
  exact_mod_cast one_le_expTail (2 ^ 64) _ _ _

theorem mantissa_lt_two (x : NUM) : mantissa x < 2 := by
  have h : (exp2Mantissa .reference (fracBits x) : NUM) < 2 ^ 65 := by
    exact_mod_cast exp2Mantissa_lt (fracBits_lt x)
  rw [mantissa, div_lt_iff₀ (by positivity)]
  linarith

theorem mantissa_mono {x y : NUM} (hf : ⌊x⌋ = ⌊y⌋) (h : x ≤ y) : mantissa x ≤ mantissa y := by
  have := exp2Mantissa_mono .reference (fracBits_mono hf h)
  unfold mantissa
  gcongr

/-! ## The laws of exp2 -/

theorem fixedOne_reference : ((fixedOne .reference : Nat) : NUM) = 2 ^ 64 := by
  norm_num [fixedOne, Numerics.reference]

theorem exp2Series_reference (x : NUM) : exp2Series .reference x = 2 ^ ⌊x⌋ * mantissa x := by
  rw [exp2Series, pow2_eq_zpow, fixedOne_reference]
  rfl

theorem exp2_reference (x : NUM) : exp2 .reference x = 2 ^ ⌊x⌋ * mantissa x := by
  rw [exp2, Numerics.round_of_rational rfl, exp2Series_reference]

theorem exp2_intCast (k : Int) : exp2 .reference k = 2 ^ k := by
  rw [exp2_reference, mantissa, fracBits_intCast, exp2Mantissa_zero, Int.floor_intCast]
  norm_num

theorem exp2_add_one (x : NUM) : exp2 .reference (x + 1) = 2 * exp2 .reference x := by
  rw [exp2_reference, exp2_reference, mantissa, fracBits_add_one, Int.floor_add_one, zpow_add_one₀ two_ne_zero,
    mantissa]
  ring

theorem zpow_floor_le_exp2 (x : NUM) : 2 ^ ⌊x⌋ ≤ exp2 .reference x := by
  rw [exp2_reference]
  exact le_mul_of_one_le_right (by positivity) (one_le_mantissa x)

theorem exp2_lt_zpow_floor (x : NUM) : exp2 .reference x < 2 ^ (⌊x⌋ + 1) := by
  rw [exp2_reference, zpow_add_one₀ two_ne_zero]
  gcongr
  exact mantissa_lt_two x

theorem exp2_pos (x : NUM) : 0 < exp2 .reference x :=
  lt_of_lt_of_le (by positivity) (zpow_floor_le_exp2 x)

theorem exp2_mono {x y : NUM} (h : x ≤ y) : exp2 .reference x ≤ exp2 .reference y := by
  rcases (Int.floor_le_floor h).eq_or_lt with hf | hf
  · rw [exp2_reference, exp2_reference, hf]
    gcongr
    exact mantissa_mono hf h
  · calc exp2 .reference x ≤ 2 ^ (⌊x⌋ + 1) := (exp2_lt_zpow_floor x).le
      _ ≤ 2 ^ ⌊y⌋ := zpow_le_zpow_right₀ one_le_two hf
      _ ≤ exp2 .reference y := zpow_floor_le_exp2 y

theorem exp2_lt_one {x : NUM} (h : x < 0) : exp2 .reference x < 1 := by
  have hf : ⌊x⌋ + 1 ≤ 0 := Int.floor_lt.mpr (by exact_mod_cast h)
  calc exp2 .reference x < 2 ^ (⌊x⌋ + 1) := exp2_lt_zpow_floor x
    _ ≤ 2 ^ (0 : Int) := zpow_le_zpow_right₀ one_le_two hf
    _ = 1 := zpow_zero 2

/-! ## The exponential series against the real exponential -/

/-- A quotient of natural numbers is the real one, less a part of one. -/
theorem natDiv_bounds (a : Nat) {b : Nat} : (a : ℝ) / b - 1 < (a / b : Nat) ∧ ((a / b : Nat) : ℝ) ≤ (a : ℝ) / b := by
  rw [← Nat.floor_div_eq_div (K := ℝ)]
  exact ⟨Nat.sub_one_lt_floor _, Nat.floor_le (by positivity)⟩

/-- One step of Horner's rule loses at most one unit. -/
theorem expTail_succ_bounds {one : Nat} (hone : 0 < one) (m k y : Nat) :
    |1 + (y : ℝ) / one / (k + 1) * ((expTail one m (k + 2) y : ℝ) / one) - (expTail one (m + 1) (k + 1) y : ℝ) / one|
      ≤ 1 / one := by
  have h1 : (0 : ℝ) < one := by exact_mod_cast hone
  obtain ⟨hlt, hle⟩ := natDiv_bounds (y * expTail one m (k + 2) y) (b := (k + 1) * one)
  have heq : 1 + (y : ℝ) / one / (k + 1) * ((expTail one m (k + 2) y : ℝ) / one)
        - (expTail one (m + 1) (k + 1) y : ℝ) / one =
      (((y * expTail one m (k + 2) y : Nat) : ℝ) / ((k + 1) * one : Nat) -
        ((y * expTail one m (k + 2) y / ((k + 1) * one) : Nat) : ℝ)) / one := by
    rw [expTail]
    push_cast
    field_simp
    ring
  rw [heq, abs_div, abs_of_pos h1]
  gcongr
  rw [abs_le]
  constructor <;> linarith

/-- The fixed-point tail against the series cut after the same term: rounding loses at most four units. -/
theorem expTail_near {one y : Nat} (hone : 0 < one) (hy : (y : ℝ) / one ≤ 7 / 10) (m n : Nat) :
    |Real.expNear (n + m) ((y : ℝ) / one) 1 - Real.expNear n ((y : ℝ) / one) ((expTail one m (n + 1) y : ℝ) / one)|
      ≤ ((y : ℝ) / one) ^ n / n.factorial * (4 / one) := by
  have h1 : (0 : ℝ) < one := by exact_mod_cast hone
  have hx0 : 0 ≤ (y : ℝ) / one := by positivity
  induction m generalizing n with
  | zero =>
    rw [expTail, div_self h1.ne', Nat.add_zero, sub_self, abs_zero]
    positivity
  | succ m ih =>
    set x := (y : ℝ) / one
    set a := (expTail one m (n + 1 + 1) y : ℝ) / one with ha
    have hstep := expTail_succ_bounds hone m n y
    have hrest := ih (n + 1)
    rw [← ha] at hrest
    have hpow : x ^ (n + 1) / (n + 1).factorial * (4 / one) ≤ x ^ n / n.factorial * (28 / 10 / one) := by
      have hxn : x / (n + 1) ≤ 7 / 10 := (div_le_self hx0 (by linarith [n.cast_nonneg (α := ℝ)])).trans hy
      calc x ^ (n + 1) / (n + 1).factorial * (4 / one)
          = x ^ n / n.factorial * (x / (n + 1) * (4 / one)) := by
            rw [Nat.factorial_succ, pow_succ]; push_cast; field_simp
        _ ≤ x ^ n / n.factorial * (7 / 10 * (4 / one)) := by gcongr
        _ = x ^ n / n.factorial * (28 / 10 / one) := by ring
    have hround : |Real.expNear (n + 1) x a - Real.expNear n x ((expTail one (m + 1) (n + 1) y : ℝ) / one)| ≤
        x ^ n / n.factorial * (1 / one) := by
      rw [Real.expNear_succ, Real.expNear_sub, abs_mul, abs_of_nonneg (by positivity : 0 ≤ x ^ n / n.factorial)]
      gcongr
    calc |Real.expNear (n + (m + 1)) x 1 - Real.expNear n x ((expTail one (m + 1) (n + 1) y : ℝ) / one)|
        ≤ |Real.expNear (n + (m + 1)) x 1 - Real.expNear (n + 1) x a| +
          |Real.expNear (n + 1) x a - Real.expNear n x ((expTail one (m + 1) (n + 1) y : ℝ) / one)| :=
          abs_sub_le _ _ _
      _ ≤ x ^ n / n.factorial * (28 / 10 / one) + x ^ n / n.factorial * (1 / one) := by
          rw [show n + (m + 1) = n + 1 + m by ring]
          exact add_le_add (hrest.trans hpow) hround
      _ = x ^ n / n.factorial * (38 / 10 / one) := by ring
      _ ≤ x ^ n / n.factorial * (4 / one) := by gcongr; norm_num

/-- The series cut after 24 terms is within one unit of the real exponential. -/
theorem exp_sub_expNear_le {x : ℝ} (h0 : 0 ≤ x) (h1 : x ≤ 1) : |Real.exp x - Real.expNear 24 x 1| ≤ 1 / 2 ^ 64 := by
  have h := Real.exp_approx_end 24 25 x rfl (abs_le.mpr ⟨by linarith, h1⟩)
  rw [Real.expNear_succ, mul_zero, add_zero, abs_of_nonneg h0] at h
  calc |Real.exp x - Real.expNear 24 x 1| ≤ x ^ 25 / (25 : Nat).factorial * (((25 : Nat) + 1) / (25 : Nat)) := h
    _ ≤ 1 ^ 25 / (25 : Nat).factorial * (((25 : Nat) + 1) / (25 : Nat)) := by gcongr
    _ ≤ 1 / 2 ^ 64 := by norm_num [Nat.factorial]

/-- The exponential at the reference precision: within five units. -/
theorem exp_near_expTail {y : Nat} (hy : (y : ℝ) / 2 ^ 64 ≤ 7 / 10) :
    |Real.exp ((y : ℝ) / 2 ^ 64) - (expTail (2 ^ 64) 24 1 y : ℝ) / 2 ^ 64| ≤ 5 / 2 ^ 64 := by
  have hround := expTail_near (one := 2 ^ 64) (y := y) (by positivity) (by exact_mod_cast hy) 24 0
  have hcut := exp_sub_expNear_le (x := (y : ℝ) / 2 ^ 64) (by positivity) (by linarith)
  simp only [Nat.zero_add, Real.expNear_zero, pow_zero, Nat.factorial_zero, Nat.cast_one, div_one, one_mul,
    Nat.cast_pow, Nat.cast_ofNat] at hround
  calc _ ≤ _ := abs_sub_le _ (Real.expNear 24 ((y : ℝ) / 2 ^ 64) 1) _
    _ ≤ 1 / 2 ^ 64 + 4 / 2 ^ 64 := add_le_add hcut hround
    _ = 5 / 2 ^ 64 := by norm_num

/-! ## ln 2 and the real power -/

/-- The exponential grows at the rate of its greater value. -/
theorem exp_sub_exp_le (a b : ℝ) : Real.exp b - Real.exp a ≤ (b - a) * Real.exp b := by
  have h : (a - b + 1) * Real.exp b ≤ Real.exp a := by
    calc (a - b + 1) * Real.exp b ≤ Real.exp (a - b) * Real.exp b := by
          gcongr
          exact Real.add_one_le_exp _
      _ = Real.exp a := by rw [← Real.exp_add, sub_add_cancel]
  linarith

/-- Below 1 the exponential grows at most three times as fast as its argument. -/
theorem abs_exp_sub_exp_le {a b : ℝ} (ha : a ≤ 1) (hb : b ≤ 1) : |Real.exp a - Real.exp b| ≤ 3 * |a - b| := by
  have hside {u v : ℝ} (hv : v ≤ 1) : Real.exp v - Real.exp u ≤ 3 * |v - u| :=
    calc Real.exp v - Real.exp u ≤ (v - u) * Real.exp v := exp_sub_exp_le u v
      _ ≤ |v - u| * 3 := by
          gcongr
          · exact le_abs_self _
          · exact (Real.exp_le_exp.mpr hv).trans Real.exp_one_lt_three.le
      _ = 3 * |v - u| := mul_comm _ _
  have h := hside (u := a) hb
  rw [abs_sub_comm b a] at h
  exact abs_le.mpr ⟨by linarith, hside ha⟩

/-- Above 0 the exponential grows at least as fast as its argument. -/
theorem abs_sub_le_abs_exp_sub_exp {a b : ℝ} (ha : 0 ≤ a) (hb : 0 ≤ b) : |a - b| ≤ |Real.exp a - Real.exp b| := by
  have hside {u v : ℝ} (hu : 0 ≤ u) : v - u ≤ |Real.exp v - Real.exp u| := by
    rcases le_total v u with hvu | huv
    · exact (sub_nonpos.mpr hvu).trans (abs_nonneg _)
    · calc v - u ≤ (v - u) * Real.exp u := le_mul_of_one_le_right (sub_nonneg.mpr huv) (Real.one_le_exp hu)
        _ ≤ Real.exp v - Real.exp u := by linarith [exp_sub_exp_le v u]
        _ ≤ |Real.exp v - Real.exp u| := le_abs_self _
  have h := hside (v := b) ha
  rw [abs_sub_comm (Real.exp b)] at h
  exact abs_le.mpr ⟨by linarith, hside hb⟩

/-- The constant `ln2` of the reference precision is within eight units of the real logarithm. -/
theorem abs_ln2_sub_log_two_le : |(12786308645202655659 : ℝ) / 2 ^ 64 - Real.log 2| ≤ 8 / 2 ^ 64 := by
  have hT : expTail (2 ^ 64) 24 1 12786308645202655659 = 2 ^ 65 - 3 := by decide +kernel
  have hexp := exp_near_expTail (y := 12786308645202655659) (by norm_num)
  rw [hT] at hexp
  have htwo : |((2 ^ 65 - 3 : Nat) : ℝ) / 2 ^ 64 - 2| ≤ 3 / 2 ^ 64 := by norm_num [abs_div]
  calc |(12786308645202655659 : ℝ) / 2 ^ 64 - Real.log 2|
      ≤ |Real.exp ((12786308645202655659 : ℝ) / 2 ^ 64) - Real.exp (Real.log 2)| :=
        abs_sub_le_abs_exp_sub_exp (by norm_num) (Real.log_nonneg one_le_two)
    _ ≤ 5 / 2 ^ 64 + 3 / 2 ^ 64 := by
        rw [Real.exp_log two_pos]
        exact (abs_sub_le _ _ _).trans (add_le_add (by exact_mod_cast hexp) htwo)
    _ = 8 / 2 ^ 64 := by norm_num

/-- The argument of the exponential in a mantissa, in units of `2^-64`. -/
def expArg (x : NUM) : Nat := fracBits x * 12786308645202655659 / 2 ^ 64

/-- The argument is near `(x - floor x) * ln 2`, within ten units: one for the bits cut off the fraction, one for the
quotient, eight for the constant. -/
theorem expArg_near (x : NUM) :
    |(expArg x : ℝ) / 2 ^ 64 - ((x : ℝ) - ⌊x⌋) * Real.log 2| ≤ 10 / 2 ^ 64 := by
  obtain ⟨hj1, hj2⟩ := fracBits_spec x
  have hj1 : (fracBits x : ℝ) ≤ ((x : ℝ) - ⌊x⌋) * 2 ^ 64 := by exact_mod_cast hj1
  have hj2 : ((x : ℝ) - ⌊x⌋) * 2 ^ 64 < fracBits x + 1 := by exact_mod_cast hj2
  obtain ⟨hy1, hy2⟩ := natDiv_bounds (fracBits x * 12786308645202655659) (b := 2 ^ 64)
  obtain ⟨hl1, hl2⟩ := abs_le.mp abs_ln2_sub_log_two_le
  have ht0 : 0 ≤ (x : ℝ) - ⌊x⌋ := sub_nonneg.mpr (by exact_mod_cast Int.floor_le x)
  have ht1 : (x : ℝ) - ⌊x⌋ ≤ 1 := by linarith [show (x : ℝ) < ⌊x⌋ + 1 by exact_mod_cast Int.lt_floor_add_one x]
  rw [← expArg] at hy1 hy2
  push_cast at hy1 hy2
  set t := (x : ℝ) - ⌊x⌋
  have hlo := mul_le_mul_of_nonneg_left hl1 ht0
  have hhi := mul_le_mul_of_nonneg_left hl2 ht0
  rw [abs_le]
  constructor <;> linarith

theorem expArg_le (x : NUM) : (expArg x : ℝ) / 2 ^ 64 ≤ 7 / 10 := by
  have h : fracBits x * 12786308645202655659 / 2 ^ 64 ≤ 12786308645202655659 :=
    Nat.div_le_of_le_mul (Nat.mul_le_mul_right _ (fracBits_lt x).le)
  have h' : (expArg x : ℝ) ≤ 12786308645202655659 := by exact_mod_cast h
  rw [div_le_iff₀ (by positivity)]
  linarith

/-- The mantissa is `2^(x - floor x)`, within 35 units. -/
theorem mantissa_near (x : NUM) : |(mantissa x : ℝ) - 2 ^ ((x : ℝ) - ⌊x⌋)| ≤ 35 / 2 ^ 64 := by
  have hm : (mantissa x : ℝ) = (expTail (2 ^ 64) 24 1 (expArg x) : ℝ) / 2 ^ 64 := by
    rw [mantissa, Rat.cast_div, Rat.cast_natCast]
    norm_num [exp2Mantissa, Numerics.reference, fixedOne, expArg]
  have hseries := exp_near_expTail (expArg_le x)
  have harg := expArg_near x
  have hfrac : ((x : ℝ) - ⌊x⌋) * Real.log 2 ≤ 1 := by
    have := (abs_le.mp harg).1
    linarith [expArg_le x]
  rw [abs_sub_comm] at hseries
  rw [hm, Real.rpow_def_of_pos two_pos, mul_comm]
  calc _ ≤ _ := abs_sub_le _ (Real.exp ((expArg x : ℝ) / 2 ^ 64)) _
    _ ≤ 5 / 2 ^ 64 + 3 * (10 / 2 ^ 64) := by
        refine add_le_add hseries ((abs_exp_sub_exp_le ?_ hfrac).trans (by gcongr))
        linarith [expArg_le x]
    _ = 35 / 2 ^ 64 := by norm_num

/-- Settles O52: both sides are `2^floor x` times a mantissa, and the mantissas are near. -/
theorem exp2Accuracy : Obligations.Exp2Accuracy := by
  intro x
  have hsplit : (2 : ℝ) ^ (x : ℝ) = 2 ^ ⌊x⌋ * 2 ^ ((x : ℝ) - ⌊x⌋) := by
    rw [← Real.rpow_intCast, ← Real.rpow_add two_pos, add_sub_cancel]
  have hone : (1 : ℝ) ≤ 2 ^ ((x : ℝ) - ⌊x⌋) := by
    refine Real.one_le_rpow one_le_two (sub_nonneg.mpr ?_)
    exact_mod_cast Int.floor_le x
  rw [exp2_reference, hsplit]
  push_cast
  rw [← mul_sub, abs_mul, abs_of_pos (by positivity), mul_div_assoc]
  gcongr
  calc |(mantissa x : ℝ) - 2 ^ ((x : ℝ) - ⌊x⌋)| ≤ 35 / 2 ^ 64 := mantissa_near x
    _ ≤ 1 / 2 ^ 56 := by norm_num
    _ ≤ 2 ^ ((x : ℝ) - ⌊x⌋) / 2 ^ 56 := by gcongr

end Sys2Proof.Proofs

/-! SUPPORT. `sin` at the reference precision (R9) against the real sine. -/

namespace Sys2Proof.Proofs

open Sys2Proof.Machine

/-! ## The sine series cut after `n` terms, with a tail -/

/-- The first `n` terms of the sine series, followed by a tail `r` in place of the others: as `Real.expNear`. -/
noncomputable def sinNear (n : Nat) (x r : ℝ) : ℝ :=
  (∑ i ∈ Finset.range n, (-1) ^ i * (x ^ (2 * i + 1) / (2 * i + 1).factorial)) +
    (-1) ^ n * (x ^ (2 * n + 1) / (2 * n + 1).factorial) * r

@[simp] theorem sinNear_zero (x r : ℝ) : sinNear 0 x r = x * r := by simp [sinNear]

/-- The scale of a tail, from one term of the series to the next. -/
theorem sinScale_succ (n : Nat) (x : ℝ) :
    x ^ (2 * (n + 1) + 1) / (2 * (n + 1) + 1).factorial =
      x ^ (2 * n + 1) / (2 * n + 1).factorial * (x ^ 2 / ((2 * n + 2) * (2 * n + 3))) := by
  rw [show 2 * (n + 1) + 1 = 2 * n + 1 + 1 + 1 by ring, Nat.factorial_succ, Nat.factorial_succ]
  push_cast
  field_simp
  ring

theorem sinNear_succ (n : Nat) (x r : ℝ) :
    sinNear (n + 1) x r = sinNear n x (1 - x ^ 2 / ((2 * n + 2) * (2 * n + 3)) * r) := by
  rw [sinNear, sinNear, Finset.sum_range_succ, sinScale_succ]
  ring

theorem sinNear_sub (n : Nat) (x r s : ℝ) :
    |sinNear n x r - sinNear n x s| = |x| ^ (2 * n + 1) / (2 * n + 1).factorial * |r - s| := by
  have h : sinNear n x r - sinNear n x s = (-1) ^ n * (x ^ (2 * n + 1) / (2 * n + 1).factorial) * (r - s) := by
    rw [sinNear, sinNear]
    ring
  rw [h, abs_mul, abs_mul, abs_div, abs_pow, abs_pow, abs_neg, abs_one, one_pow, one_mul, Nat.abs_cast]

/-- The odd part of the exponential series on the imaginary axis is the sine series. -/
theorem im_sum_exp_series (n : Nat) (x : ℝ) :
    (∑ m ∈ Finset.range (2 * n), (x * Complex.I) ^ m / (m.factorial : ℂ)).im = sinNear n x 0 := by
  rw [sinNear, mul_zero, add_zero]
  induction n with
  | zero => simp
  | succ n ih =>
    have heven : (x * Complex.I) ^ (2 * n) = (((-1) ^ n * x ^ (2 * n) : ℝ) : ℂ) := by
      rw [mul_pow, pow_mul Complex.I, Complex.I_sq]
      push_cast
      ring
    have hodd : (x * Complex.I) ^ (2 * n + 1) = (((-1) ^ n * x ^ (2 * n + 1) : ℝ) : ℂ) * Complex.I := by
      rw [pow_succ, heven]
      push_cast
      ring
    rw [show 2 * (n + 1) = 2 * n + 1 + 1 by ring, Finset.sum_range_succ, Finset.sum_range_succ,
      Finset.sum_range_succ, Complex.add_im, Complex.add_im, ih, heven, hodd, Complex.div_natCast_im,
      Complex.div_natCast_im, Complex.ofReal_im, Complex.im_ofReal_mul, Complex.I_im]
    ring

/-- The sine series cut after 21 terms is within one unit of the real sine. -/
theorem sin_sub_sinNear_le {x : ℝ} (hx : |x| ≤ 4) : |Real.sin x - sinNear 20 x 1| ≤ 1 / 2 ^ 64 := by
  have hcut : sinNear 20 x 1 = sinNear 21 x 0 := by rw [sinNear_succ 20, mul_zero, sub_zero]
  have hnorm : ‖(x * Complex.I : ℂ)‖ = |x| := by simp
  have h := Complex.exp_bound' (x := x * Complex.I) (n := 42) (by rw [hnorm]; norm_num; linarith)
  rw [hcut, ← im_sum_exp_series, ← Complex.exp_ofReal_mul_I_im, ← Complex.sub_im]
  calc _ ≤ _ := Complex.abs_im_le_norm _
    _ ≤ |x| ^ 42 / (42 : Nat).factorial * 2 := by rw [hnorm] at h; exact h
    _ ≤ 4 ^ 42 / (42 : Nat).factorial * 2 := by gcongr
    _ ≤ 1 / 2 ^ 64 := by norm_num [Nat.factorial]

/-! ## The fixed-point tail -/

/-- A quotient of integers rounded down is the real one, less a part of one. -/
theorem intDiv_bounds (a : Int) {b : Nat} (hb : 0 < b) :
    (a : ℝ) / b - 1 < (a / (b : Int) : Int) ∧ ((a / (b : Int) : Int) : ℝ) ≤ (a : ℝ) / b := by
  have hb' : (0 : ℝ) < b := by exact_mod_cast hb
  have hbi : (0 : Int) < b := by exact_mod_cast hb
  rw [sub_lt_iff_lt_add, div_lt_iff₀ hb', le_div_iff₀ hb']
  exact ⟨by exact_mod_cast Int.lt_ediv_add_one_mul_self a hbi, by exact_mod_cast Int.ediv_mul_le a hbi.ne'⟩

/-- The tail of the sine series in fixed point, as a number. -/
noncomputable def sinTailVal (m k : Nat) (z : Int) : ℝ := (sinTail (2 ^ 64) m k z : ℝ) / 2 ^ 64

theorem sinTailVal_zero (k : Nat) (z : Int) : sinTailVal 0 k z = 1 := by
  norm_num [sinTailVal, sinTail]

/-- One step of Horner's rule loses at most one unit. -/
theorem sinTailVal_succ (m n : Nat) (z : Int) :
    |1 - (z : ℝ) / 2 ^ 64 / ((2 * n + 2) * (2 * n + 3)) * sinTailVal m (n + 2) z - sinTailVal (m + 1) (n + 1) z| ≤
      1 / 2 ^ 64 := by
  set d : Nat := 2 * (n + 1) * (2 * (n + 1) + 1) * 2 ^ 64 with hd
  obtain ⟨hlt, hle⟩ := intDiv_bounds (z * sinTail (2 ^ 64) m (n + 2) z) (b := d) (by positivity)
  have heq : 1 - (z : ℝ) / 2 ^ 64 / ((2 * n + 2) * (2 * n + 3)) * sinTailVal m (n + 2) z
        - sinTailVal (m + 1) (n + 1) z =
      (((z * sinTail (2 ^ 64) m (n + 2) z / (d : Int) : Int) : ℝ) -
        ((z * sinTail (2 ^ 64) m (n + 2) z : Int) : ℝ) / d) / 2 ^ 64 := by
    rw [sinTailVal, sinTailVal, sinTail, ← hd]
    push_cast [hd]
    field_simp
    ring
  rw [heq, abs_div, abs_of_pos (by positivity : (0 : ℝ) < 2 ^ 64)]
  gcongr
  rw [abs_le]
  constructor <;> linarith

/-- From the second term on a step of the series halves at least. -/
theorem sinCoef_le {w : ℝ} (h10 : w ≤ 10) (n : Nat) :
    w / ((2 * ((n + 1 : Nat) : ℝ) + 2) * (2 * ((n + 1 : Nat) : ℝ) + 3)) ≤ 1 / 2 := by
  have hn : (0 : ℝ) ≤ n := n.cast_nonneg
  push_cast
  rw [div_le_iff₀ (by positivity)]
  nlinarith

/-- From the second term on a tail stays below 3 in magnitude. -/
theorem abs_sinTailVal_le {z : Int} (h0 : 0 ≤ (z : ℝ) / 2 ^ 64) (h10 : (z : ℝ) / 2 ^ 64 ≤ 10) (m n : Nat) :
    |sinTailVal m (n + 2) z| ≤ 3 := by
  induction m generalizing n with
  | zero => norm_num [sinTailVal_zero]
  | succ m ih =>
    have hstep := sinTailVal_succ m (n + 1) z
    have hcoef := sinCoef_le h10 n
    set c := (z : ℝ) / 2 ^ 64 / ((2 * ((n + 1 : Nat) : ℝ) + 2) * (2 * ((n + 1 : Nat) : ℝ) + 3)) with hc
    have hc0 : 0 ≤ c := by positivity
    have hprod : |c * sinTailVal m (n + 1 + 2) z| ≤ 1 / 2 * 3 := by
      rw [abs_mul, abs_of_nonneg hc0]
      exact mul_le_mul hcoef (ih (n + 1)) (abs_nonneg _) (by norm_num)
    obtain ⟨hs1, hs2⟩ := abs_le.mp hstep
    obtain ⟨hp1, hp2⟩ := abs_le.mp hprod
    rw [abs_le]
    constructor <;> linarith

/-! ## The error of the tail

`z` is `x^2` cut to 64 bits. An error is measured in the scale `|x|^(2n+1)/(2n+1)!` of its term. -/

section Tail

variable {x : ℝ} {z : Int} (hx : x ^ 2 ≤ 10) (hz0 : 0 ≤ (z : ℝ) / 2 ^ 64) (hz : (z : ℝ) / 2 ^ 64 ≤ x ^ 2)
  (hzx : x ^ 2 - (z : ℝ) / 2 ^ 64 ≤ 1 / 2 ^ 64)

include hx hz0 hz hzx

/-- One step of Horner's rule, `x^2` cut to its bits, loses at most 3/2 units. -/
theorem sinNear_step (m n : Nat) :
    |sinNear (n + 1) x (sinTailVal m (n + 2) z) - sinNear n x (sinTailVal (m + 1) (n + 1) z)| ≤
      |x| ^ (2 * n + 1) / (2 * n + 1).factorial * (3 / 2 / 2 ^ 64) := by
  rw [sinNear_succ, sinNear_sub]
  gcongr
  have hd : (6 : ℝ) ≤ (2 * n + 2) * (2 * n + 3) := by nlinarith [n.cast_nonneg (α := ℝ)]
  have hstep := sinTailVal_succ m n z
  have ha := abs_sinTailVal_le hz0 (hz.trans hx) m n
  set a := sinTailVal m (n + 2) z
  set d : ℝ := (2 * n + 2) * (2 * n + 3)
  have hcut : |1 - x ^ 2 / d * a - (1 - (z : ℝ) / 2 ^ 64 / d * a)| ≤ 1 / 2 ^ 64 / 6 * 3 := by
    have heq : 1 - x ^ 2 / d * a - (1 - (z : ℝ) / 2 ^ 64 / d * a) = -((x ^ 2 - (z : ℝ) / 2 ^ 64) / d * a) := by ring
    rw [heq, abs_neg, abs_mul, abs_of_nonneg (div_nonneg (sub_nonneg.mpr hz) (by positivity))]
    gcongr
  calc _ ≤ _ := abs_sub_le _ (1 - (z : ℝ) / 2 ^ 64 / d * a) _
    _ ≤ 1 / 2 ^ 64 / 6 * 3 + 1 / 2 ^ 64 := add_le_add hcut hstep
    _ = 3 / 2 / 2 ^ 64 := by norm_num

/-- From the second term on the error of a tail is at most three units. -/
theorem sinTail_near_succ (m n : Nat) :
    |sinNear (n + 1 + m) x 1 - sinNear (n + 1) x (sinTailVal m (n + 2) z)| ≤
      |x| ^ (2 * (n + 1) + 1) / (2 * (n + 1) + 1).factorial * (3 / 2 ^ 64) := by
  induction m generalizing n with
  | zero =>
    rw [sinTailVal_zero, Nat.add_zero, sub_self, abs_zero]
    positivity
  | succ m ih =>
    have hrest := ih (n + 1)
    rw [sinScale_succ (n + 1), sq_abs] at hrest
    have hcoef := sinCoef_le hx n
    calc |sinNear (n + 1 + (m + 1)) x 1 - sinNear (n + 1) x (sinTailVal (m + 1) (n + 2) z)|
        ≤ |sinNear (n + 1 + (m + 1)) x 1 - sinNear (n + 1 + 1) x (sinTailVal m (n + 1 + 2) z)| +
          |sinNear (n + 1 + 1) x (sinTailVal m (n + 1 + 2) z) - sinNear (n + 1) x (sinTailVal (m + 1) (n + 2) z)| :=
          abs_sub_le _ _ _
      _ ≤ |x| ^ (2 * (n + 1) + 1) / (2 * (n + 1) + 1).factorial * (1 / 2) * (3 / 2 ^ 64) +
          |x| ^ (2 * (n + 1) + 1) / (2 * (n + 1) + 1).factorial * (3 / 2 / 2 ^ 64) := by
          refine add_le_add ?_ (sinNear_step hx hz0 hz hzx m (n + 1))
          rw [show n + 1 + (m + 1) = n + 1 + 1 + m by ring]
          exact hrest.trans (by gcongr)
      _ = |x| ^ (2 * (n + 1) + 1) / (2 * (n + 1) + 1).factorial * (3 / 2 ^ 64) := by ring

/-- The whole tail: seven units. -/
theorem sinTail_near (m : Nat) : |sinNear (m + 1) x 1 - x * sinTailVal (m + 1) 1 z| ≤ |x| * (7 / 2 ^ 64) := by
  have hscale : |x| ^ (2 * 0 + 1) / (2 * 0 + 1).factorial = |x| := by simp
  have hstep := sinNear_step hx hz0 hz hzx m 0
  have hrest := sinTail_near_succ hx hz0 hz hzx m 0
  rw [sinScale_succ 0, sq_abs, hscale] at hrest
  rw [hscale, sinNear_zero] at hstep
  have hcoef : x ^ 2 / ((2 * ((0 : Nat) : ℝ) + 2) * (2 * ((0 : Nat) : ℝ) + 3)) ≤ 10 / 6 := by
    norm_num
    linarith
  calc |sinNear (m + 1) x 1 - x * sinTailVal (m + 1) 1 z|
      ≤ |sinNear (m + 1) x 1 - sinNear 1 x (sinTailVal m 2 z)| +
        |sinNear 1 x (sinTailVal m 2 z) - x * sinTailVal (m + 1) 1 z| := abs_sub_le _ _ _
    _ ≤ |x| * (10 / 6) * (3 / 2 ^ 64) + |x| * (3 / 2 / 2 ^ 64) := by
        refine add_le_add ?_ hstep
        rw [show m + 1 = 0 + 1 + m by ring]
        exact hrest.trans (by gcongr)
    _ = |x| * (13 / 2 / 2 ^ 64) := by ring
    _ ≤ |x| * (7 / 2 ^ 64) := by gcongr; norm_num

end Tail

/-! ## The whole function -/

/-- `sinFixed` is the real sine of its argument, within 25 units. -/
theorem sinFixed_near {r : Int} (hr : |(r : ℝ) / 2 ^ 64| ≤ 63 / 20) :
    |(sinFixed .reference r : ℝ) / 2 ^ 64 - Real.sin ((r : ℝ) / 2 ^ 64)| ≤ 25 / 2 ^ 64 := by
  set x : ℝ := (r : ℝ) / 2 ^ 64 with hxr
  set z : Int := r * r / (2 ^ 64 : Nat) with hz
  obtain ⟨hz1, hz2⟩ := intDiv_bounds (r * r) (b := 2 ^ 64) (by positivity)
  rw [← hz] at hz1 hz2
  have hsq : ((r * r : Int) : ℝ) / (2 ^ 64 : Nat) / 2 ^ 64 = x ^ 2 := by rw [hxr]; push_cast; ring
  have hx10 : x ^ 2 ≤ 10 := by rw [← sq_abs]; nlinarith [abs_nonneg x]
  have hz0 : (0 : ℝ) ≤ (z : ℝ) / 2 ^ 64 := by
    have : 0 ≤ z := Int.ediv_nonneg (mul_self_nonneg r) (by positivity)
    positivity
  have hzle : (z : ℝ) / 2 ^ 64 ≤ x ^ 2 := by rw [← hsq]; gcongr
  have hzx : x ^ 2 - (z : ℝ) / 2 ^ 64 ≤ 1 / 2 ^ 64 := by
    rw [← hsq, ← sub_div]
    gcongr
    linarith
  have htail := sinTail_near hx10 hz0 hzle hzx 19
  have hcut := sin_sub_sinNear_le (x := x) (by linarith)
  obtain ⟨hf1, hf2⟩ := intDiv_bounds (r * sinTail (2 ^ 64) 20 1 z) (b := 2 ^ 64) (by positivity)
  have hfix : sinFixed .reference r = r * sinTail (2 ^ 64) 20 1 z / (2 ^ 64 : Nat) := rfl
  have hround : |x * sinTailVal 20 1 z - (sinFixed .reference r : ℝ) / 2 ^ 64| ≤ 1 / 2 ^ 64 := by
    have hval : x * sinTailVal 20 1 z = ((r * sinTail (2 ^ 64) 20 1 z : Int) : ℝ) / (2 ^ 64 : Nat) / 2 ^ 64 := by
      rw [hxr, sinTailVal]; push_cast; ring
    rw [hfix, hval, ← sub_div, abs_div, abs_of_pos (by positivity : (0 : ℝ) < 2 ^ 64)]
    gcongr
    rw [abs_le]
    constructor <;> linarith
  have hscale : |x| * (7 / 2 ^ 64) ≤ 63 / 20 * (7 / 2 ^ 64) := by gcongr
  rw [abs_sub_comm]
  calc _ ≤ |Real.sin x - sinNear 20 x 1| + (|sinNear 20 x 1 - x * sinTailVal 20 1 z| +
        |x * sinTailVal 20 1 z - (sinFixed .reference r : ℝ) / 2 ^ 64|) :=
        (abs_sub_le _ (sinNear 20 x 1) _).trans (by gcongr; exact abs_sub_le _ _ _)
    _ ≤ 1 / 2 ^ 64 + (63 / 20 * (7 / 2 ^ 64) + 1 / 2 ^ 64) := by gcongr; exact htail.trans hscale
    _ ≤ 25 / 2 ^ 64 := by norm_num

/-- The constant `twoPi` of the reference precision, within two units. -/
theorem abs_twoPi_sub_le : |(115904311329233965478 : ℝ) / 2 ^ 64 - 2 * Real.pi| ≤ 2 / 2 ^ 64 := by
  rw [abs_le]
  constructor <;> linarith [Real.pi_gt_d20, Real.pi_lt_d20]

/-- An argument of `sin`, cut to 64 bits. -/
def sinCut (x : NUM) : Int := ⌊x * 2 ^ 64⌋

theorem sinCut_near (x : NUM) : |(sinCut x : ℝ) / 2 ^ 64 - (x : ℝ)| ≤ 1 / 2 ^ 64 := by
  have hcut : (sinCut x : NUM) ≤ x * 2 ^ 64 ∧ x * 2 ^ 64 < (sinCut x : NUM) + 1 :=
    ⟨Int.floor_le _, Int.lt_floor_add_one _⟩
  have h1 : (sinCut x : ℝ) ≤ (x : ℝ) * 2 ^ 64 := by exact_mod_cast hcut.1
  have h2 : (x : ℝ) * 2 ^ 64 < (sinCut x : ℝ) + 1 := by exact_mod_cast hcut.2
  rw [abs_le]
  constructor <;> linarith

/-- The whole turns taken off an argument of `sin`. -/
def sinTurns (x : NUM) : Int := (sinCut x + 57952155664616982739) / 115904311329233965478

/-- The argument of `sin` less its whole turns, in units of `2^-64`. -/
def sinArg (x : NUM) : Int := sinCut x - sinTurns x * 115904311329233965478

theorem sin_reference (x : NUM) :
    Machine.sin .reference x = clamp ((sinFixed .reference (sinArg x) : NUM) / 2 ^ 64) (-1) 1 := by
  rw [Machine.sin, Numerics.round_of_rational rfl, fixedOne_reference]
  rfl

/-- What is left is at most half a turn. -/
theorem abs_sinArg_le (x : NUM) : |(sinArg x : ℝ) / 2 ^ 64| ≤ 63 / 20 := by
  have h : -57952155664616982739 ≤ sinArg x ∧ sinArg x ≤ 57952155664616982739 := by
    unfold sinArg sinTurns
    omega
  have h1 : (-57952155664616982739 : ℝ) ≤ sinArg x := by exact_mod_cast h.1
  have h2 : (sinArg x : ℝ) ≤ 57952155664616982739 := by exact_mod_cast h.2
  rw [abs_le]
  constructor <;> linarith

/-- Up to 8 in magnitude at most one turn is taken off. -/
theorem abs_sinTurns_le {x : NUM} (hx : |x| ≤ 8) : |sinTurns x| ≤ 1 := by
  obtain ⟨hl, hu⟩ := abs_le.mp hx
  have h1 : -8 * 2 ^ 64 ≤ sinCut x := Int.le_floor.mpr (by push_cast; linarith)
  have h2 : sinCut x ≤ 8 * 2 ^ 64 := Int.floor_le_iff.mpr (by push_cast; linarith)
  rw [abs_le, sinTurns]
  omega

/-- The reduced argument is near the real one. -/
theorem sinArg_near {x : NUM} (hx : |x| ≤ 8) :
    |(sinArg x : ℝ) / 2 ^ 64 - ((x : ℝ) - sinTurns x * (2 * Real.pi))| ≤ 3 / 2 ^ 64 := by
  have hturns : |(sinTurns x : ℝ)| ≤ 1 := by exact_mod_cast abs_sinTurns_le hx
  have heq : (sinArg x : ℝ) / 2 ^ 64 - ((x : ℝ) - sinTurns x * (2 * Real.pi)) =
      ((sinCut x : ℝ) / 2 ^ 64 - x) + sinTurns x * (2 * Real.pi - (115904311329233965478 : ℝ) / 2 ^ 64) := by
    rw [sinArg]
    push_cast
    ring
  rw [heq]
  refine (abs_add_le _ _).trans ?_
  rw [abs_mul, abs_sub_comm (2 * Real.pi)]
  calc _ ≤ (1 : ℝ) / 2 ^ 64 + 1 * (2 / 2 ^ 64) :=
        add_le_add (sinCut_near x) (mul_le_mul hturns abs_twoPi_sub_le (abs_nonneg _) zero_le_one)
    _ = 3 / 2 ^ 64 := by norm_num

/-- Holding a number in [-1, 1] brings it no farther from a number there. -/
theorem abs_clamp_sub_le (v : NUM) {y : ℝ} (h1 : -1 ≤ y) (h2 : y ≤ 1) :
    |((clamp v (-1) 1 : NUM) : ℝ) - y| ≤ |(v : ℝ) - y| := by
  unfold clamp
  split_ifs with hl hu
  · have hl : (v : ℝ) < -1 := by exact_mod_cast hl
    rw [abs_sub_comm, abs_sub_comm (v : ℝ)]
    push_cast
    exact abs_le_abs_of_nonneg (by linarith) (by linarith)
  · have hu : 1 < (v : ℝ) := by exact_mod_cast hu
    push_cast
    exact abs_le_abs_of_nonneg (by linarith) (by linarith)
  · exact le_rfl

/-- Settles O54: turns taken off, a fixed-point series of what is left, and the clamp, each with its error. -/
theorem sinAccuracy : Obligations.SinAccuracy := by
  intro x hx
  have hfixed := sinFixed_near (abs_sinArg_le x)
  have harg := (Real.abs_sin_sub_sin_le _ _).trans (sinArg_near hx)
  rw [Real.sin_sub_int_mul_two_pi] at harg
  rw [sin_reference]
  calc _ ≤ _ := abs_clamp_sub_le _ (Real.neg_one_le_sin _) (Real.sin_le_one _)
    _ ≤ _ := abs_sub_le _ (Real.sin ((sinArg x : ℝ) / 2 ^ 64)) _
    _ ≤ 25 / 2 ^ 64 + 3 / 2 ^ 64 := by push_cast; exact add_le_add hfixed harg
    _ ≤ 1 / 2 ^ 50 := by norm_num

end Sys2Proof.Proofs

/-! SUPPORT. `tanh` at the reference precision (R9, R300): its laws, and its distance from the real function; then
the laws of the primitives together. -/

namespace Sys2Proof.Proofs

open Sys2Proof.Machine

/-! ## tanh of a number that is not negative -/

/-- The model's approximation of `e^(-2x)`. -/
def expNegTwo (x : NUM) : NUM := exp2 .reference (-(x * Numerics.reference.twoLog2E))

theorem twoLog2E_reference : Numerics.reference.twoLog2E = 2885390081777926814719849362003 / 10 ^ 30 := rfl

theorem expNegTwo_pos (x : NUM) : 0 < expNegTwo x := exp2_pos _

theorem expNegTwo_zero : expNegTwo 0 = 1 := by
  have h := exp2_intCast 0
  simpa [expNegTwo] using h

theorem expNegTwo_anti {x y : NUM} (h : x ≤ y) : expNegTwo y ≤ expNegTwo x := by
  have hc : 0 ≤ Numerics.reference.twoLog2E := by rw [twoLog2E_reference]; positivity
  exact exp2_mono (neg_le_neg (mul_le_mul_of_nonneg_right h hc))

theorem expNegTwo_le_one {x : NUM} (h : 0 ≤ x) : expNegTwo x ≤ 1 := expNegTwo_zero ▸ expNegTwo_anti h

/-- `(1 - e)/(1 + e)`, which `tanh` is of `e^(-2x)`. -/
def tanhRatio (e : NUM) : NUM := (1 - e) / (1 + e)

theorem tanhRatio_anti {d e : NUM} (hd : 0 < d) (h : d ≤ e) : tanhRatio e ≤ tanhRatio d := by
  rw [tanhRatio, tanhRatio, div_le_div_iff₀ (by linarith) (by linarith)]
  linarith

theorem tanhRatio_nonneg {e : NUM} (h0 : 0 < e) (h1 : e ≤ 1) : 0 ≤ tanhRatio e :=
  div_nonneg (sub_nonneg.mpr h1) (by linarith)

theorem tanhRatio_lt_one {e : NUM} (h0 : 0 < e) : tanhRatio e < 1 := by
  rw [tanhRatio, div_lt_one (by linarith)]
  linarith

theorem tanhAbs_reference (x : NUM) : tanhAbs .reference x = (⌊tanhRatio (expNegTwo x) * 2 ^ 64⌋ : NUM) / 2 ^ 64 := by
  rw [tanhAbs, Numerics.round_of_rational rfl, tanhQuotient, fixedOne_reference, expNegTwo, exp2,
    Numerics.round_of_rational rfl, floor_eq_intFloor, tanhRatio]

theorem tanhAbs_zero : tanhAbs .reference 0 = 0 := by
  simp [tanhAbs_reference, expNegTwo_zero, tanhRatio]

theorem tanhAbs_nonneg {x : NUM} (h : 0 ≤ x) : 0 ≤ tanhAbs .reference x := by
  have hr := tanhRatio_nonneg (expNegTwo_pos x) (expNegTwo_le_one h)
  have hf : 0 ≤ ⌊tanhRatio (expNegTwo x) * 2 ^ 64⌋ := Int.floor_nonneg.mpr (by positivity)
  rw [tanhAbs_reference]
  positivity

/-- Cutting a number to 64 bits loses at most one unit. -/
theorem floorBits_bounds (q : NUM) :
    q - 1 / 2 ^ 64 < (⌊q * 2 ^ 64⌋ : NUM) / 2 ^ 64 ∧ (⌊q * 2 ^ 64⌋ : NUM) / 2 ^ 64 ≤ q := by
  have hpow : (0 : NUM) < 2 ^ 64 := by positivity
  rw [lt_div_iff₀ hpow, div_le_iff₀ hpow, sub_mul, one_div_mul_cancel hpow.ne']
  exact ⟨sub_lt_iff_lt_add.mpr (Int.lt_floor_add_one _), Int.floor_le _⟩

theorem tanhAbs_bounds (x : NUM) :
    tanhRatio (expNegTwo x) - 1 / 2 ^ 64 < tanhAbs .reference x ∧ tanhAbs .reference x ≤ tanhRatio (expNegTwo x) := by
  rw [tanhAbs_reference]
  exact floorBits_bounds _

theorem tanhAbs_lt_one (x : NUM) : tanhAbs .reference x < 1 :=
  (tanhAbs_bounds x).2.trans_lt (tanhRatio_lt_one (expNegTwo_pos x))

theorem tanhAbs_mono {x y : NUM} (h : x ≤ y) : tanhAbs .reference x ≤ tanhAbs .reference y := by
  have hr := tanhRatio_anti (expNegTwo_pos y) (expNegTwo_anti h)
  rw [tanhAbs_reference, tanhAbs_reference]
  gcongr

/-! ## The laws of tanh -/

theorem tanh_of_nonneg (n : Numerics) {x : NUM} (h : 0 ≤ x) : tanh n x = tanhAbs n x := if_pos h

theorem tanh_of_neg (n : Numerics) {x : NUM} (h : x < 0) : tanh n x = -tanhAbs n (-x) := if_neg h.not_ge

theorem tanh_zero : tanh .reference 0 = 0 := by rw [tanh_of_nonneg _ le_rfl, tanhAbs_zero]

theorem tanh_neg (x : NUM) : tanh .reference (-x) = -tanh .reference x := by
  rcases lt_trichotomy x 0 with h | rfl | h
  · rw [tanh_of_nonneg _ (by linarith), tanh_of_neg _ h, neg_neg]
  · rw [neg_zero, tanh_zero, neg_zero]
  · rw [tanh_of_neg _ (by linarith), tanh_of_nonneg _ h.le, neg_neg]

theorem tanh_nonneg {x : NUM} (h : 0 ≤ x) : 0 ≤ tanh .reference x := by
  rw [tanh_of_nonneg _ h]
  exact tanhAbs_nonneg h

theorem tanh_mem (x : NUM) : -1 < tanh .reference x ∧ tanh .reference x < 1 := by
  rcases le_or_gt 0 x with h | h
  · exact ⟨by linarith [tanh_nonneg h], tanh_of_nonneg .reference h ▸ tanhAbs_lt_one x⟩
  · rw [tanh_of_neg _ h]
    constructor <;> linarith [tanhAbs_lt_one (-x), tanhAbs_nonneg (x := -x) (by linarith)]

theorem tanh_mono {x y : NUM} (h : x ≤ y) : tanh .reference x ≤ tanh .reference y := by
  rcases le_or_gt 0 x with hx | hx
  · rw [tanh_of_nonneg _ hx, tanh_of_nonneg _ (hx.trans h)]
    exact tanhAbs_mono h
  · rcases le_or_gt 0 y with hy | hy
    · rw [tanh_of_neg _ hx]
      linarith [tanh_nonneg hy, tanhAbs_nonneg (x := -x) (by linarith)]
    · rw [tanh_of_neg _ hx, tanh_of_neg _ hy, neg_le_neg_iff]
      exact tanhAbs_mono (neg_le_neg h)

/-! ## tanh against the real function -/

theorem real_tanh_eq (x : ℝ) : Real.tanh x = (1 - Real.exp (-(x * 2))) / (1 + Real.exp (-(x * 2))) := by
  have h : Real.exp (-(x * 2)) = Real.exp (-x) / Real.exp x := by
    rw [← Real.exp_sub]
    congr 1
    ring
  have hx := Real.exp_pos x
  rw [Real.tanh_eq, h]
  field_simp

/-- The ratio moves at most twice as far as its argument. -/
theorem abs_ratio_sub_le {d e : ℝ} (hd : 0 < d) (he : 0 < e) :
    |(1 - d) / (1 + d) - (1 - e) / (1 + e)| ≤ 2 * |d - e| := by
  have heq : (1 - d) / (1 + d) - (1 - e) / (1 + e) = -(2 * (d - e)) / ((1 + d) * (1 + e)) := by
    field_simp
    ring
  rw [heq, abs_div, abs_neg, abs_mul, abs_two, abs_of_pos (by positivity : 0 < (1 + d) * (1 + e))]
  exact div_le_self (by positivity) (by nlinarith [mul_pos hd he])

/-- The constant `twoLog2E` of the reference precision against the real `2/ln 2`. -/
theorem abs_twoLog2E_mul_log_two_sub_le :
    |(2885390081777926814719849362003 / 10 ^ 30 : ℝ) * Real.log 2 - 2| ≤ 1 / 2 ^ 56 := by
  obtain ⟨h1, h2⟩ := abs_le.mp abs_ln2_sub_log_two_le
  rw [abs_le]
  constructor <;> linarith

theorem mul_exp_neg_mul_le_one {x c : ℝ} (hx : 0 ≤ x) (hc : 1 ≤ c) : x * Real.exp (-(x * c)) ≤ 1 := by
  have h : x ≤ Real.exp (x * c) := by nlinarith [Real.add_one_le_exp (x * c)]
  calc x * Real.exp (-(x * c)) ≤ Real.exp (x * c) * Real.exp (-(x * c)) := by gcongr
    _ = 1 := by rw [← Real.exp_add, add_neg_cancel, Real.exp_zero]

/-- An error of the factor in the exponent counts once at most, however large the argument. -/
theorem abs_exp_neg_mul_sub_le {x a b : ℝ} (hx : 0 ≤ x) (ha : 1 ≤ a) (hb : 1 ≤ b) :
    |Real.exp (-(x * a)) - Real.exp (-(x * b))| ≤ |a - b| := by
  have hside {c d : ℝ} (hc : 1 ≤ c) : Real.exp (-(x * c)) - Real.exp (-(x * d)) ≤ |c - d| :=
    calc Real.exp (-(x * c)) - Real.exp (-(x * d)) ≤ (-(x * c) - -(x * d)) * Real.exp (-(x * c)) := exp_sub_exp_le _ _
      _ = (d - c) * (x * Real.exp (-(x * c))) := by ring
      _ ≤ |c - d| * 1 := by
          rw [abs_sub_comm]
          exact mul_le_mul (le_abs_self _) (mul_exp_neg_mul_le_one hx hc) (by positivity) (abs_nonneg _)
      _ = |c - d| := mul_one _
  have h := hside (d := a) hb
  rw [abs_sub_comm b a] at h
  exact abs_le.mpr ⟨by linarith, hside ha⟩

theorem expNegTwo_near {x : NUM} (h : 0 ≤ x) : |(expNegTwo x : ℝ) - Real.exp (-(x * 2))| ≤ 2 / 2 ^ 56 := by
  have hx : (0 : ℝ) ≤ x := by exact_mod_cast h
  set a : ℝ := (2885390081777926814719849362003 / 10 ^ 30 : ℝ) * Real.log 2 with ha
  have hconst : |a - 2| ≤ 1 / 2 ^ 56 := abs_twoLog2E_mul_log_two_sub_le
  have ha1 : 1 ≤ a := by linarith [(abs_le.mp hconst).1]
  have hpow : (2 : ℝ) ^ ((-(x * Numerics.reference.twoLog2E) : NUM) : ℝ) = Real.exp (-(x * a)) := by
    rw [Real.rpow_def_of_pos two_pos, ha, twoLog2E_reference]
    push_cast
    ring_nf
  have hle : Real.exp (-(x * a)) ≤ 1 := Real.exp_le_one_iff.mpr (by nlinarith)
  have hacc := exp2Accuracy (-(x * Numerics.reference.twoLog2E))
  rw [hpow, ← expNegTwo] at hacc
  calc |(expNegTwo x : ℝ) - Real.exp (-(x * 2))|
      ≤ |(expNegTwo x : ℝ) - Real.exp (-(x * a))| + |Real.exp (-(x * a)) - Real.exp (-(x * 2))| := abs_sub_le _ _ _
    _ ≤ 1 / 2 ^ 56 + 1 / 2 ^ 56 :=
        add_le_add (hacc.trans (by gcongr)) ((abs_exp_neg_mul_sub_le hx ha1 one_le_two).trans hconst)
    _ = 2 / 2 ^ 56 := by norm_num

theorem tanhAbs_near {x : NUM} (h : 0 ≤ x) : |(tanhAbs .reference x : ℝ) - Real.tanh x| ≤ 1 / 2 ^ 50 := by
  set e := expNegTwo x with he
  have hpos : (0 : ℝ) < e := by exact_mod_cast expNegTwo_pos x
  have hround : |(tanhAbs .reference x : ℝ) - (1 - e) / (1 + e)| ≤ 1 / 2 ^ 64 := by
    have hb := tanhAbs_bounds x
    rw [← he, tanhRatio] at hb
    have h1 := (Rat.cast_lt (K := ℝ)).mpr hb.1
    have h2 := (Rat.cast_le (K := ℝ)).mpr hb.2
    push_cast at h1 h2
    rw [abs_le]
    constructor <;> linarith
  have hratio : |(1 - (e : ℝ)) / (1 + e) - Real.tanh x| ≤ 2 * (2 / 2 ^ 56) := by
    rw [real_tanh_eq]
    exact (abs_ratio_sub_le hpos (Real.exp_pos _)).trans (by gcongr; exact expNegTwo_near h)
  calc |(tanhAbs .reference x : ℝ) - Real.tanh x|
      ≤ |(tanhAbs .reference x : ℝ) - (1 - e) / (1 + e)| + |(1 - (e : ℝ)) / (1 + e) - Real.tanh x| :=
        abs_sub_le _ _ _
    _ ≤ 1 / 2 ^ 64 + 2 * (2 / 2 ^ 56) := add_le_add hround hratio
    _ ≤ 1 / 2 ^ 50 := by norm_num

/-- Settles O53: both functions are odd, and above 0 the errors of `e^(-2x)`, the ratio and the rounding add up. -/
theorem tanhAccuracy : Obligations.TanhAccuracy := by
  intro x
  rcases le_or_gt 0 x with h | h
  · rw [tanh_of_nonneg _ h]
    exact tanhAbs_near h
  · have hneg := tanhAbs_near (x := -x) (by linarith)
    rw [Rat.cast_neg, Real.tanh_neg, ← abs_neg] at hneg
    rw [tanh_of_neg _ h, Rat.cast_neg]
    convert hneg using 2
    ring

/-! ## The laws together -/

theorem sin_near {x : NUM} (hx : |x| ≤ 8) : |((Machine.sin .reference x : NUM) : ℝ) - Real.sin x| ≤ 1 / 1000 :=
  (sinAccuracy x hx).trans (by norm_num)

theorem numericsSound_reference : NumericsSound .reference where
  exp2_int := exp2_intCast
  exp2_double := exp2_add_one
  exp2_pos := exp2_pos
  exp2_mono _ _ := exp2_mono
  exp2_lt_one _ := exp2_lt_one
  tanh_bound := tanh_mem
  tanh_odd := tanh_neg
  tanh_mono _ _ := tanh_mono
  tanh_zero := tanh_zero
  sin_near _ := sin_near

/-- The reference soft clipper in exact arithmetic. -/
theorem softClip_eq_tanh {c : Config} (hn : c.num = .reference) (hk : c.softClip = .reference) (x : NUM) :
    softClip c x = tanh .reference (3 * x) := by
  rw [softClip_reference hk, hn, Numerics.mul_of_rational rfl]

/-- Settles O51: the laws of the primitives, and those of `tanh` carried to the soft clipper. -/
theorem numericLaws : Obligations.NumericLaws := by
  refine ⟨numericsSound_reference, fun c hn hk => ?_⟩
  simp only [softClip_eq_tanh hn hk]
  refine ⟨fun x => tanh_mem _, fun x => ?_, ?_, fun x y h => tanh_mono (by linarith)⟩
  · rw [mul_neg, tanh_neg]
  · rw [mul_zero, tanh_zero]

end Sys2Proof.Proofs

/-! SUPPORT. What a step can do, said once: the answer of every command, and how an invariant of the engine is kept. -/

namespace Sys2Proof.Proofs

open Sys2Proof.Machine

/-! ## The sub-commands by index (R83, R350 to R377) -/

/-- `Effect_A` by its index. -/
def paramEffect (i : Fin 26) : ParamEffect := fun c old x e =>
  match i.val with
  | 2 => effectDcoPwmDepth c old x e
  | 3 => effectDcoPwmMod c old x e
  | 4 => effectDcoSawLevel c old x e
  | 5 => effectDcoPulseLevel c old x e
  | 6 => effectDcoSubLevel c old x e
  | 7 => effectDcoNoiseLevel c old x e
  | 9 => effectDcoPitchMod c old x e
  | 10 => effectVcfCutoff c old x e
  | 11 => effectVcfResonance c old x e
  | 12 => effectVcfEnvMod c old x e
  | 13 => effectVcfLfoMod c old x e
  | 14 => effectVcfKbdMod c old x e
  | 15 => effectVcfBendMod c old x e
  | 20 => effectLfoTrigMode c old x e
  | _ => e

/-- Every index below 26 has its sub-command, and that is the common rule with the effect of the index. -/
theorem paramInstr_exec (k : Fin 26) (v : Word32) :
    ∃ i, paramInstr k v = some i ∧ ∀ s, exec i s = paramWith k (paramEffect k) v s := by
  fin_cases k <;> exact ⟨_, rfl, fun _ => rfl⟩

/-- A command that has an index is the sub-command of it. -/
theorem paramInstr_of_paramIndex {i : Instr} {n : Nat} (h : paramIndex i = some n) :
    n < 26 ∧ ∃ v, paramInstr n v = some i := by
  cases i with
  | create | destroy | getvc | noteon | noteoff | cc | bend | getp | setvol | getvol | setoct | getoct | render =>
    cases h
  | _ => cases h; exact ⟨by decide, _, rfl⟩

/-- A command is the sub-command of an index, or has none. -/
theorem exec_param_or (i : Instr) :
    (∃ (k : Fin 26) (v : Word32), ∀ s, exec i s = paramWith k (paramEffect k) v s) ∨ paramIndex i = none := by
  cases h : paramIndex i with
  | none => exact .inr rfl
  | some n =>
    obtain ⟨hn, v, hv⟩ := paramInstr_of_paramIndex h
    obtain ⟨j, hj, hexec⟩ := paramInstr_exec ⟨n, hn⟩ v
    obtain rfl : i = j := Option.some.inj (hv.symm.trans hj)
    exact .inl ⟨_, v, hexec⟩

/-! ## The parts of a block (R322)

Irreducible, so that a comparison of engines never evaluates the renderer: `renderBlock_eq` says what they are. -/

/-- The LFO over a block: its record after it, and its samples. -/
@[irreducible] def blockLfo (c : Config) (draws : Draws) (t n : Nat) (e : Engine) : LfoState × List (Nat × NUM) :=
  scanBlock (lfoFrame c e.params draws) e.lfo (List.range' t n)

/-- The shared smoothers over a block, and what they give the voices. -/
@[irreducible] def blockMods (c : Config) (draws : Draws) (t n : Nat) (e : Engine) : SharedSm × List ModFrame :=
  scanBlock (sharedMod c) e.sm (blockLfo c draws t n e).2

/-- The voices after a block, and the mix. -/
@[irreducible] def blockVoices (c : Config) (draws : Draws) (t n : Nat) (e : Engine) : Vector Voice 6 × List NUM :=
  slots.foldl (renderSlot c e.params e.bendSemi draws (blockMods c draws t n e).2) (e.voices, List.replicate n 0)

/-- The effects chain over the mix of a block. -/
@[irreducible] def blockEffects (c : Config) (draws : Draws) (t n : Nat) (e : Engine) :
    (HpfState × ChorusState) × List (NUM × NUM) :=
  scanBlock (effectsFrame c e.params) (e.hp, e.chorus) (blockVoices c draws t n e).2

theorem renderBlock_eq (c : Config) (draws : Draws) (t n : Nat) (e : Engine) :
    renderBlock c draws t n e =
      { eng := { e with
          lfo := (blockLfo c draws t n e).1
          sm := (blockMods c draws t n e).1
          voices := (blockVoices c draws t n e).1
          hp := (blockEffects c draws t n e).1.1
          chorus := (blockEffects c draws t n e).1.2 }
        out := (blockEffects c draws t n e).2 } := by
  simp only [renderBlock, blockEffects, blockVoices, blockMods, blockLfo]

/-! ## The answer of a command -/

theorem renderFrames_cmdPort (d : Draws) (n : Nat) (s : State) : (renderFrames d n s).cmdPort = s.cmdPort := by
  simp [renderFrames]

theorem renderFrames_frameNo (d : Draws) (n : Nat) (s : State) : (renderFrames d n s).frameNo = s.frameNo + n := by
  simp [renderFrames]

theorem renderFrames_pcmPort (d : Draws) (n : Nat) (s : State) :
    (renderFrames d n s).pcmPort =
      s.pcmPort ++ pcmFrames s.cfg s.eng.volume (renderBlock s.cfg d s.frameNo n s.eng).out := by
  simp [renderFrames]

theorem renderFrames_eng (d : Draws) (n : Nat) (s : State) :
    (renderFrames d n s).eng = (renderBlock s.cfg d s.frameNo n s.eng).eng := by
  simp [renderFrames]

/-- What a command other than `CREATE` and `DESTROY` can do to an engine that has been created. -/
inductive EngineStep (c : Config) (e : Engine) : Engine → Prop where
  | same : EngineStep c e e
  | noteOn (a : Nat) (v : Word32) (vel : NUM) (h : numOperand v 0 1 = some vel) :
      EngineStep c e (noteOnEngine c e (transposedNote e.octave a) vel)
  | noteOff (n : Nat) : EngineStep c e (noteOffEngine c e n)
  | silence : EngineStep c e (e.mapVoices (silenceVoice c))
  | bend (b : Nat) : EngineStep c e (bendEngine c.num e (bendSemitones c.num b))
  | param (k : Fin 26) (v : Word32) (x : NUM) (h : numOperand v 0 (paramHi k) = some x) :
      EngineStep c e (paramEngine c k (paramEffect k) x e)
  | volume (v : Word32) (x : NUM) (h : numOperand v 0 1 = some x) : EngineStep c e { e with volume := x }
  | octave (o : Int) : EngineStep c e { e with octave := octaveSetting c o }
  | render (draws : Draws) (t n : Nat) : EngineStep c e (renderBlock c draws t n e).eng

/-- What any command leaves of a state: the configuration and the words waiting stay, the output ports grow at their
ends, and an engine that counts afterwards is a fresh one or comes from one command on the engine before. -/
structure Answers (s t : State) : Prop where
  cfg : t.cfg = s.cfg
  cmdPort : t.cmdPort = s.cmdPort
  rspPort : s.rspPort <+: t.rspPort
  pcmPort : s.pcmPort <+: t.pcmPort
  frameNo : s.frameNo ≤ t.frameNo
  eng : t.instValid = true → t.eng = initialEngine s.cfg ∨ s.instValid = true ∧ EngineStep s.cfg s.eng t.eng

theorem Answers.refl (s : State) : Answers s s :=
  ⟨rfl, rfl, List.prefix_rfl, List.prefix_rfl, le_rfl, fun hs => .inr ⟨hs, .same⟩⟩

theorem Answers.respond {s t : State} (h : Answers s t) (op status : Word8) (n : Nat) (v : Word32) :
    Answers s (t.respond op status n v) :=
  ⟨h.cfg, h.cmdPort, h.rspPort.trans (List.prefix_append _ _), h.pcmPort, h.frameNo, h.eng⟩

theorem Answers.ok {s t : State} (h : Answers s t) (op : Word8) : Answers s (t.ok op) := h.respond op statusOk 0 0

theorem Answers.emit {s t : State} (h : Answers s t) (frames : List Word32) : Answers s (t.emit frames) :=
  ⟨h.cfg, h.cmdPort, h.rspPort, h.pcmPort.trans (List.prefix_append _ _), h.frameNo, h.eng⟩

theorem answers_setEng {s : State} {e : Engine} (h : EngineStep s.cfg s.eng e) : Answers s (s.setEng e) :=
  ⟨rfl, rfl, List.prefix_rfl, List.prefix_rfl, le_rfl, fun hs => .inr ⟨hs, h⟩⟩

theorem answers_fresh (s : State) : Answers s { s.setEng (initialEngine s.cfg) with instValid := true } :=
  ⟨rfl, rfl, List.prefix_rfl, List.prefix_rfl, le_rfl, fun _ => .inl rfl⟩

theorem answers_release (s : State) : Answers s s.release :=
  ⟨rfl, rfl, List.prefix_rfl, List.prefix_rfl, le_rfl, fun h => absurd h Bool.false_ne_true⟩

theorem answers_renderFrames (draws : Draws) (n : Nat) (s : State) : Answers s (renderFrames draws n s) where
  cfg := renderFrames_cfg _ _ _
  cmdPort := renderFrames_cmdPort _ _ _
  rspPort := by rw [renderFrames_rspPort]
  pcmPort := by rw [renderFrames_pcmPort]; exact List.prefix_append _ _
  frameNo := by rw [renderFrames_frameNo]; exact Nat.le_add_right _ _
  eng hs := by rw [renderFrames_instValid] at hs; rw [renderFrames_eng]; exact .inr ⟨hs, .render _ _ _⟩

theorem answers_of_withInstance {op : Word8} {s t : State} {body : State → State}
    (h : withInstance op s body = .next t) (hbody : Answers s (body s)) : Answers s t := by
  rcases withInstance_cases h with ⟨-, rfl⟩ | ⟨-, rfl⟩
  · exact hbody
  · exact (Answers.refl s).respond _ _ _ _

theorem answers_withNum {op : Word8} {v : Word32} {lo hi : NUM} {s : State} {body : NUM → State}
    (h : ∀ x, numOperand v lo hi = some x → Answers s (body x)) : Answers s (withNum op v lo hi s body) := by
  cases hx : numOperand v lo hi with
  | none => rw [withNum_of_none hx]; exact (Answers.refl s).respond _ _ _ _
  | some x => rw [withNum_of_some hx]; exact h x hx

/-- The answer of every command of the table. -/
theorem exec_answers {i : Instr} {s t : State} (h : exec i s = .next t) : Answers s t := by
  rcases exec_param_or i with ⟨k, v, hk⟩ | hnone
  · rw [hk] at h
    exact answers_of_withInstance h (answers_withNum fun x hx => (answers_setEng (.param k v x hx)).ok _)
  cases i with
  | create =>
    cases h
    exact (answers_fresh s).ok _
  | destroy =>
    rw [exec, execDestroy] at h
    exact answers_of_withInstance h ((answers_release s).ok _)
  | getvc =>
    rw [exec, execGetvc] at h
    exact answers_of_withInstance h ((Answers.refl s).respond _ _ _ _)
  | noteon a v =>
    rw [exec, execNoteon] at h
    exact answers_of_withInstance h (answers_withNum fun x hx => (answers_setEng (.noteOn a v x hx)).ok _)
  | noteoff a =>
    rw [exec, execNoteoff] at h
    exact answers_of_withInstance h ((answers_setEng (.noteOff _)).ok _)
  | cc number value =>
    rw [exec, execCc] at h
    refine answers_of_withInstance h ?_
    split
    · exact (answers_setEng .silence).ok _
    · exact (Answers.refl s).ok _
  | bend b =>
    rw [exec, execBend] at h
    exact answers_of_withInstance h ((answers_setEng (.bend b)).ok _)
  | getp index =>
    rw [exec, execGetp] at h
    refine answers_of_withInstance h ?_
    split
    · exact (Answers.refl s).respond _ _ _ _
    · exact (Answers.refl s).respond _ _ _ _
  | setvol v =>
    rw [exec, execSetvol] at h
    exact answers_of_withInstance h (answers_withNum fun x hx => (answers_setEng (.volume v x hx)).ok _)
  | getvol =>
    rw [exec, execGetvol] at h
    exact answers_of_withInstance h ((Answers.refl s).respond _ _ _ _)
  | setoct o =>
    rw [exec, execSetoct] at h
    exact answers_of_withInstance h ((answers_setEng (.octave o)).ok _)
  | getoct =>
    rw [exec, execGetoct] at h
    exact answers_of_withInstance h ((Answers.refl s).respond _ _ _ _)
  | render b =>
    cases h
    unfold renderWith
    split
    · exact (answers_renderFrames _ _ s).respond _ _ _ _
    · exact ((Answers.refl s).emit _).respond _ _ _ _
  | _ => cases hnone

/-- The answer of a step: it takes the first word waiting, if there is one, and answers it. -/
theorem step_answers {s t : State} (h : step s = .next t) : Answers { s with cmdPort := s.cmdPort.tail } t := by
  cases hp : s.cmdPort with
  | nil =>
    rw [step_of_nil hp] at h
    cases h
    rw [List.tail_nil, ← hp]
    exact Answers.refl s
  | cons w rest =>
    rw [step_of_cons hp] at h
    rw [List.tail_cons]
    cases hd : decode w with
    | instr i => rw [hd] at h; exact exec_answers h
    | reservedOp op => rw [hd] at h; cases h; exact (Answers.refl _).respond _ _ _ _
    | illegalIndex a =>
      rw [hd, runDecoded, rejectIndex] at h
      exact answers_of_withInstance h ((Answers.refl _).respond _ _ _ _)

/-- Settles O10, by the answer of a step. -/
theorem stepFrame : Obligations.StepFrame := fun _ _ h =>
  have ha := step_answers h
  ⟨ha.cfg, ha.cmdPort, ha.rspPort, ha.pcmPort, ha.frameNo⟩

/-- A property of the engine that a fresh one has and every command keeps is kept by every step. -/
theorem step_keeps {P : Engine → Prop} {s t : State} (h : step s = .next t) (hinit : P (initialEngine s.cfg))
    (hkeep : ∀ e, P s.eng → EngineStep s.cfg s.eng e → P e) (hs : s.instValid = true → P s.eng)
    (ht : t.instValid = true) : P t.eng := by
  rcases (step_answers h).eng ht with hfresh | ⟨hvalid, hstep⟩
  · rw [hfresh]; exact hinit
  · exact hkeep _ (hs hvalid) hstep

theorem step_cfg {s t : State} (h : step s = .next t) : t.cfg = s.cfg := (step_answers h).cfg

/-! ## Properties of every entry of a register file -/

theorem forall_getElem_set {α : Type} {n : Nat} {P : Fin n → α → Prop} {xs : Vector α n} {k : Fin n} {x : α}
    (h : ∀ j : Fin n, P j xs[j]) (hx : P k x) (j : Fin n) : P j (xs.set k x)[j] := by
  by_cases hj : k = j
  · subst hj; simpa using hx
  · have hne : (k : Nat) ≠ j := fun he => hj (Fin.ext he)
    simpa [Vector.getElem_set_ne, hne] using h j

theorem forall_getElem_map {α β : Type} {n : Nat} {P : β → Prop} {xs : Vector α n} {f : α → β}
    (h : ∀ j : Fin n, P (f xs[j])) (j : Fin n) : P (xs.map f)[j] := by
  simpa using h j

theorem forall_getElem_replicate {α : Type} {n : Nat} {P : α → Prop} {x : α} (h : P x) (j : Fin n) :
    P (Vector.replicate n x)[j] := by
  simpa using h

/-! ## What the operations on the engine can do -/

/-- What the fan-out of a value to the voices does to one of them (R354 to R359). A target is never above 1. -/
inductive VoiceFanOut (x : NUM) : (Voice → Voice) → Prop where
  | pwmSm (hx : x ≤ 1) : VoiceFanOut x fun v => { v with pwmSm := v.pwmSm.setTarget x }
  | pwmSrc : VoiceFanOut x fun v => { v with pwmSrc := pwmSrcOfTag (tag x 3) }
  | saw (hx : x ≤ 1) : VoiceFanOut x fun v => { v with osc := { v.osc with saw := v.osc.saw.setTarget x } }
  | pulse (hx : x ≤ 1) : VoiceFanOut x fun v => { v with osc := { v.osc with pulse := v.osc.pulse.setTarget x } }
  | sub (hx : x ≤ 1) : VoiceFanOut x fun v => { v with osc := { v.osc with sub := v.osc.sub.setTarget x } }
  | noise (hx : x ≤ 1) : VoiceFanOut x fun v => { v with osc := { v.osc with noise := v.osc.noise.setTarget x } }

/-- What the fan-out of a value to the shared smoothers does (R361 to R367). -/
inductive SmFanOut (x : NUM) : (SharedSm → SharedSm) → Prop where
  | pitchMod : SmFanOut x fun m => { m with pitchMod := m.pitchMod.setTarget x }
  | cutoff : SmFanOut x fun m => { m with cutoff := m.cutoff.setTarget x }
  | res : SmFanOut x fun m => { m with res := m.res.setTarget x }
  | envMod : SmFanOut x fun m => { m with envMod := m.envMod.setTarget x }
  | lfoMod : SmFanOut x fun m => { m with lfoMod := m.lfoMod.setTarget x }
  | kbdMod : SmFanOut x fun m => { m with kbdMod := m.kbdMod.setTarget x }
  | bendMod : SmFanOut x fun m => { m with bendMod := m.bendMod.setTarget x }

/-- The four kinds of effect a sub-command can have besides its register write (R350). -/
inductive FanOut (c : Config) (x : NUM) (e : Engine) : Engine → Prop where
  | none : FanOut c x e e
  | voices {g : Voice → Voice} (h : VoiceFanOut x g) : FanOut c x e (e.mapVoices g)
  | sm (hx : x ≤ 1) {m : SharedSm → SharedSm} (h : SmFanOut x m) : FanOut c x e (e.mapSm m)
  | lfo : FanOut c x e { e with lfo := lfoShutdown c }

theorem paramHi_of_ne {k : Nat} (h3 : k ≠ 3) (h8 : k ≠ 8) : paramHi k = 1 := if_neg (by simp [h3, h8])

theorem paramEffect_fanOut (k : Fin 26) (c : Config) (old x : NUM) (e : Engine) (hx : x ≤ paramHi k) :
    FanOut c x e (paramEffect k c old x e) := by
  have h1 {n : Nat} (hk : k.val = n) (h3 : n ≠ 3) (h8 : n ≠ 8) : x ≤ 1 := by
    rw [hk, paramHi_of_ne h3 h8] at hx
    exact hx
  unfold paramEffect
  split
  case h_1 hk => exact .voices (.pwmSm (h1 hk (by decide) (by decide)))
  case h_2 => exact .voices .pwmSrc
  case h_3 hk => exact .voices (.saw (h1 hk (by decide) (by decide)))
  case h_4 hk => exact .voices (.pulse (h1 hk (by decide) (by decide)))
  case h_5 hk => exact .voices (.sub (h1 hk (by decide) (by decide)))
  case h_6 hk => exact .voices (.noise (h1 hk (by decide) (by decide)))
  case h_7 hk => exact .sm (h1 hk (by decide) (by decide)) .pitchMod
  case h_8 hk => exact .sm (h1 hk (by decide) (by decide)) .cutoff
  case h_9 hk => exact .sm (h1 hk (by decide) (by decide)) .res
  case h_10 hk => exact .sm (h1 hk (by decide) (by decide)) .envMod
  case h_11 hk => exact .sm (h1 hk (by decide) (by decide)) .lfoMod
  case h_12 hk => exact .sm (h1 hk (by decide) (by decide)) .kbdMod
  case h_13 hk => exact .sm (h1 hk (by decide) (by decide)) .bendMod
  case h_14 =>
    unfold effectLfoTrigMode
    split
    · exact .none
    · exact .lfo
  case h_15 => exact .none

theorem firstSlot_some {vs : Vector Voice 6} {p : Voice → Bool} {k : Fin 6} (h : firstSlot vs p = some k) :
    p vs[k] = true :=
  List.find?_some (p := fun j : Fin 6 => p vs[j]) h

/-- The engine after a note-off: as before, or with one matching voice let go (R135). -/
theorem noteOffEngine_cases (c : Config) (e : Engine) (n : Nat) :
    noteOffEngine c e n = e ∨ ∃ (k : Fin 6) (l : LfoState), (e.voices[k]).active = true ∧
      (l = e.lfo ∨ l = lfoNoteOff e.lfo) ∧
      noteOffEngine c e n = { e with voices := e.voices.set k (releaseVoice e.voices[k]), lfo := l } := by
  unfold noteOffEngine
  split
  case h_1 => exact .inl rfl
  case h_2 k hk =>
    have hfound : holdsNote c n e.voices[k] = true := firstSlot_some hk
    have hactive : (e.voices[k]).active = true := by
      simp only [holdsNote, Bool.and_eq_true] at hfound
      exact hfound.1.1
    refine .inr ⟨k, _, hactive, ?_, rfl⟩
    split
    · exact .inr rfl
    · exact .inl rfl

end Sys2Proof.Proofs

/-! SUPPORT. The registers stay in their domains and binary32 values (R22, R26, R380, R383). -/

namespace Sys2Proof.Proofs

open Sys2Proof.Machine

/-! ## Binary32 values -/

theorem f32Decode_zero : f32Decode 0 = .fin 0 := by simp [f32Decode]

theorem isBinary32_zero : IsBinary32 0 := ⟨0, f32Decode_zero⟩

theorem isBinary32_one : IsBinary32 1 := ⟨0x3F800000, by decide +kernel⟩

theorem isBinary32_two : IsBinary32 2 := ⟨0x40000000, by decide +kernel⟩

theorem isBinary32_paramHi (i : Nat) : IsBinary32 (paramHi i) := by
  unfold paramHi
  split
  · exact isBinary32_two
  · exact isBinary32_one

/-- A clamped operand is a binary32 value where its bounds are (R88, R380 b). -/
theorem isBinary32_of_numOperand {v : Word32} {lo hi x : NUM} (hlo : IsBinary32 lo) (hhi : IsBinary32 hi)
    (h : numOperand v lo hi = some x) : IsBinary32 x := by
  unfold numOperand at h
  split at h
  case h_1 q hq =>
    cases h
    unfold clamp
    split_ifs
    · exact hlo
    · exact hhi
    · exact ⟨v, hq⟩
  case h_2 => cases h; exact hhi
  case h_3 => cases h; exact hlo
  case h_4 => cases h

/-! ## The register file -/

/-- A binary32 value of an interval from 0. -/
def InDomain (hi x : NUM) : Prop := 0 ≤ x ∧ x ≤ hi ∧ IsBinary32 x

theorem inDomain_of_numOperand {v : Word32} {hi x : NUM} (h0 : 0 ≤ hi) (hhi : IsBinary32 hi)
    (h : numOperand v 0 hi = some x) : InDomain hi x :=
  ⟨(numOperand_mem h0 h).1, (numOperand_mem h0 h).2, isBinary32_of_numOperand isBinary32_zero hhi h⟩

/-- The parameter file and the control registers are in their domains (R22, R26). -/
structure RegistersInDomain (c : Config) (e : Engine) : Prop where
  params : ∀ i : Fin 26, InDomain (paramHi i) e.params[i]
  volume : InDomain 1 e.volume
  octave : c.octMin ≤ e.octave ∧ e.octave ≤ c.octMax
  bendSemi : -7 ≤ e.bendSemi ∧ e.bendSemi < 7

theorem registersInDomain_iff (s : State) :
    s.ParamsInDomain ∧ s.ControlsInRange ↔ (s.instValid = true → RegistersInDomain s.cfg s.eng) :=
  ⟨fun h hs => ⟨h.1 hs, (h.2 hs).1, (h.2 hs).2.1, (h.2 hs).2.2⟩,
    fun h => ⟨fun hs => (h hs).params, fun hs => ⟨(h hs).volume, (h hs).octave, (h hs).bendSemi⟩⟩⟩

/-- The four kinds of register of two engines agree. -/
structure SameRegisters (e e' : Engine) : Prop where
  params : e'.params = e.params
  volume : e'.volume = e.volume
  octave : e'.octave = e.octave
  bendSemi : e'.bendSemi = e.bendSemi

theorem RegistersInDomain.of_same {c : Config} {e e' : Engine} (h : RegistersInDomain c e) (hs : SameRegisters e e') :
    RegistersInDomain c e' := by
  obtain ⟨hp, hv, ho, hb⟩ := hs
  exact ⟨hp ▸ h.params, hv ▸ h.volume, ho ▸ h.octave, hb ▸ h.bendSemi⟩

/-- No fan-out writes a register. -/
theorem FanOut.sameRegisters {c : Config} {x : NUM} {e e' : Engine} (h : FanOut c x e e') : SameRegisters e e' := by
  cases h <;> exact ⟨rfl, rfl, rfl, rfl⟩

theorem sameRegisters_noteOffEngine (c : Config) (e : Engine) (n : Nat) : SameRegisters e (noteOffEngine c e n) := by
  rcases noteOffEngine_cases c e n with h | ⟨k, l, -, -, h⟩
  · rw [h]; exact ⟨rfl, rfl, rfl, rfl⟩
  · rw [h]; exact ⟨rfl, rfl, rfl, rfl⟩

theorem paramDefault_inDomain {c : Config} (hc : c.Valid) (i : Fin 26) : InDomain (paramHi i) c.paramDefault[i] :=
  ⟨(hc.rules.default_domain i).1, (hc.rules.default_domain i).2, hc.rules.default_binary32 i⟩

theorem volumeDefault_inDomain {c : Config} (hc : c.Valid) : InDomain 1 c.volumeDefault :=
  ⟨hc.rules.volume_domain.1.le, hc.rules.volume_domain.2, hc.rules.volume_binary32⟩

theorem initialEngine_bendSemi (c : Config) : (initialEngine c).bendSemi = 0 := rfl

theorem registersInDomain_initialEngine {c : Config} (hc : c.Valid) : RegistersInDomain c (initialEngine c) where
  params := paramDefault_inDomain hc
  volume := volumeDefault_inDomain hc
  octave := hc.rules.octave_domain
  bendSemi := by rw [initialEngine_bendSemi]; norm_num

theorem octaveSetting_mem {c : Config} (hc : c.Valid) (o : Int) :
    c.octMin ≤ octaveSetting c o ∧ octaveSetting c o ≤ c.octMax :=
  clampInt_mem (hc.rules.oct_range.1.trans hc.rules.oct_range.2)

theorem registersInDomain_keep {c : Config} (hc : c.Valid) {e e' : Engine} (h : RegistersInDomain c e)
    (hstep : EngineStep c e e') : RegistersInDomain c e' := by
  cases hstep with
  | same => exact h
  | noteOn | silence => exact h.of_same ⟨rfl, rfl, rfl, rfl⟩
  | render => rw [renderBlock_eq]; exact h.of_same ⟨rfl, rfl, rfl, rfl⟩
  | noteOff n => exact h.of_same (sameRegisters_noteOffEngine c e n)
  | bend b => exact ⟨h.params, h.volume, h.octave, hc.bend_range b⟩
  | param k v x hx =>
    have hfan := paramEffect_fanOut k c e.params[k] x (e.setParam k x) (numOperand_mem (paramHi_nonneg k) hx).2
    refine RegistersInDomain.of_same ?_ hfan.sameRegisters
    have hdom := inDomain_of_numOperand (paramHi_nonneg k) (isBinary32_paramHi k) hx
    exact ⟨forall_getElem_set (P := fun i => InDomain (paramHi i)) h.params hdom, h.volume, h.octave, h.bendSemi⟩
  | volume v x hx =>
    exact ⟨h.params, inDomain_of_numOperand zero_le_one isBinary32_one hx, h.octave, h.bendSemi⟩
  | octave o => exact ⟨h.params, h.volume, octaveSetting_mem hc o, h.bendSemi⟩

/-- Settles O55: the defaults are in their domains, and every register is written with a clamped operand. -/
theorem stepKeepsRegistersInDomain : Obligations.StepKeepsRegistersInDomain := by
  intro s t hc hp hctl h
  rw [registersInDomain_iff, step_cfg h]
  exact step_keeps h (registersInDomain_initialEngine hc) (fun e => registersInDomain_keep hc)
    ((registersInDomain_iff s).mp ⟨hp, hctl⟩)

end Sys2Proof.Proofs

/-! SUPPORT. The voices stay consistent (R35, R129, R197). -/

namespace Sys2Proof.Proofs

open Sys2Proof.Machine

/-! ## One voice -/

/-- A voice tuned to its note under the bend in force (R35 a, d). -/
def Tuned (c : Config) (b : NUM) (v : Voice) : Prop :=
  ∃ n, v.note = some n ∧ n ≤ 127 ∧ v.bendMul = bendMulOf c.num b ∧ v.freq = c.num.mul (baseFreq c.num n) v.bendMul

theorem consistent_of_active {c : Config} {b : NUM} {v : Voice} (ha : v.active = true) :
    v.Consistent c b ↔ Tuned c b v ∧ (currentEnv v).stage ≠ .idle := by
  rw [Voice.Consistent, if_pos ha, Tuned]

theorem consistent_of_inactive {c : Config} {b : NUM} {v : Voice} (ha : v.active = false) :
    v.Consistent c b ↔ v.note = none ∧ v.envA = envShutdown c ∧ v.envG = envShutdown c := by
  rw [Voice.Consistent, if_neg (ha ▸ Bool.false_ne_true)]

/-- What consistency reads of a voice. -/
structure SameNote (v w : Voice) : Prop where
  active : w.active = v.active
  note : w.note = v.note
  bendMul : w.bendMul = v.bendMul
  freq : w.freq = v.freq

theorem Tuned.of_same {c : Config} {b : NUM} {v w : Voice} (h : Tuned c b v) (hs : SameNote v w) : Tuned c b w := by
  unfold Tuned
  rw [hs.note, hs.bendMul, hs.freq]
  exact h

theorem consistent_of_same {c : Config} {b : NUM} {v w : Voice} (h : v.Consistent c b) (hs : SameNote v w)
    (hm : w.vcaMode = v.vcaMode) (hA : w.envA = v.envA) (hG : w.envG = v.envG) : w.Consistent c b := by
  have hcur : currentEnv w = currentEnv v := by rw [currentEnv, currentEnv, hm, hA, hG]
  cases ha : v.active with
  | true =>
    obtain ⟨htuned, hlive⟩ := (consistent_of_active ha).mp h
    exact (consistent_of_active (hs.active.trans ha)).mpr ⟨htuned.of_same hs, hcur ▸ hlive⟩
  | false =>
    obtain ⟨hn, hshutA, hshutG⟩ := (consistent_of_inactive ha).mp h
    exact (consistent_of_inactive (hs.active.trans ha)).mpr ⟨hs.note.trans hn, hA.trans hshutA, hG.trans hshutG⟩

theorem currentEnv_envelopes (v : Voice) : currentEnv v = v.envA ∨ currentEnv v = v.envG := by
  unfold currentEnv
  cases v.vcaMode
  · exact .inl rfl
  · exact .inr rfl

theorem envNoteOff_stage_ne_idle {e : EnvState} (h : e.stage ≠ .idle) : (envNoteOff e).stage ≠ .idle := by
  unfold envNoteOff
  split <;> simp_all

theorem consistent_initialVoice (c : Config) (b : NUM) : (initialVoice c).Consistent c b :=
  (consistent_of_inactive rfl).mpr ⟨rfl, rfl, rfl⟩

/-- A struck voice is tuned and both its envelopes are in Attack (R130, R191). -/
theorem consistent_strikeVoice (c : Config) (p : Vector NUM 26) (b : NUM) {n : Nat} (hn : n ≤ 127) (x : NUM)
    (v : Voice) : (strikeVoice c p b n x v).Consistent c b := by
  refine (consistent_of_active rfl).mpr ⟨⟨n, rfl, hn, rfl, rfl⟩, ?_⟩
  rcases currentEnv_envelopes (strikeVoice c p b n x v) with h | h
  · rw [h]; exact EnvStage.noConfusion
  · rw [h]; exact EnvStage.noConfusion

/-- Letting a voice go keeps its current envelope alive. -/
theorem consistent_releaseVoice {c : Config} {b : NUM} {v : Voice} (h : v.Consistent c b) (ha : v.active = true) :
    (releaseVoice v).Consistent c b := by
  obtain ⟨htuned, hlive⟩ := (consistent_of_active ha).mp h
  refine (consistent_of_active (v := releaseVoice v) ha).mpr ⟨htuned.of_same ⟨rfl, rfl, rfl, rfl⟩, ?_⟩
  have hcur : currentEnv (releaseVoice v) = envNoteOff (currentEnv v) := by
    unfold currentEnv
    cases hm : v.vcaMode <;> simp [hm]
  rw [hcur]
  exact envNoteOff_stage_ne_idle hlive

theorem consistent_silenceVoice {c : Config} {b : NUM} {v : Voice} (h : v.Consistent c b) :
    (silenceVoice c v).Consistent c b := by
  unfold silenceVoice
  split
  · exact (consistent_of_inactive rfl).mpr ⟨rfl, rfl, rfl⟩
  · exact h

/-- A bend retunes an active voice and leaves an inactive one alone (R145). -/
theorem consistent_bendVoice {c : Config} {b b' : NUM} {v : Voice} (h : v.Consistent c b) :
    (bendVoice c.num b' v).Consistent c b' := by
  unfold bendVoice
  split
  case isTrue ha =>
    obtain ⟨⟨n, hnote, hn, -, -⟩, hlive⟩ := (consistent_of_active ha).mp h
    refine (consistent_of_active (by exact ha)).mpr ⟨⟨n, hnote, hn, rfl, ?_⟩, hlive⟩
    simp only [noteNumber, hnote, Option.getD_some, tunedFreq]
  case isFalse ha =>
    have ha' : v.active = false := Bool.eq_false_iff.mpr ha
    exact (consistent_of_inactive ha').mpr ((consistent_of_inactive ha').mp h)

theorem sameNote_voiceFrame (c : Config) (p : Vector NUM 26) (b : NUM) (d : Nat → NUM) (v : Voice) (m : ModFrame) :
    SameNote v (voiceFrame c p b d v m).1 := ⟨rfl, rfl, rfl, rfl⟩

/-- The deactivation check leaves a tuned voice alive or ends it (R129, R332). -/
theorem consistent_deactivationCheck {c : Config} {b : NUM} {v : Voice} (ha : v.active = true) (h : Tuned c b v) :
    (deactivationCheck c v).Consistent c b := by
  rcases deactivationCheck_cases c v with ⟨hlive, heq⟩ | ⟨-, heq⟩
  · rw [heq]
    exact (consistent_of_active ha).mpr ⟨h, by simpa [envActive] using hlive⟩
  · rw [heq]
    exact (consistent_of_inactive rfl).mpr ⟨rfl, rfl, rfl⟩

/-! ## The pool -/

/-- Every voice of the pool is consistent under the bend in force. -/
def PoolConsistent (c : Config) (e : Engine) : Prop := ∀ k : Fin 6, (e.voices[k]).Consistent c e.bendSemi

/-- What the fan-outs keep of a voice, the pool keeps. -/
theorem FanOut.voices_keep {c : Config} {x : NUM} {e e' : Engine} (h : FanOut c x e e') {P : Voice → Prop}
    (hkeep : ∀ g v, VoiceFanOut x g → P v → P (g v)) (hP : ∀ j : Fin 6, P e.voices[j]) (j : Fin 6) :
    P e'.voices[j] := by
  cases h with
  | none | sm | lfo => exact hP j
  | voices hg => exact forall_getElem_map (fun j => hkeep _ _ hg (hP j)) j

theorem consistent_voiceFanOut {c : Config} {b x : NUM} {g : Voice → Voice} (hg : VoiceFanOut x g) {v : Voice}
    (h : v.Consistent c b) : (g v).Consistent c b := by
  cases hg <;> exact consistent_of_same h ⟨rfl, rfl, rfl, rfl⟩ rfl rfl rfl

/-- What holds of every voice that is skipped or run over the block and checked holds of the pool after it. -/
theorem renderSlot_voices {P : Voice → Prop} {c : Config} {p : Vector NUM 26} {b : NUM} {draws : Draws}
    {mods : List ModFrame} {acc : Vector Voice 6 × List NUM} {k : Fin 6}
    (hrun : ∀ v, P v → v.active = true →
      P (deactivationCheck c (scanBlock (voiceFrame c p b (draws (.voice k))) v mods).1))
    (h : ∀ j : Fin 6, P acc.1[j]) (j : Fin 6) : P (renderSlot c p b draws mods acc k).1[j] := by
  unfold renderSlot
  split
  case isTrue ha => exact forall_getElem_set (P := fun _ => P) h (hrun _ (h k) ha) j
  case isFalse => exact h j

/-- A consistent active voice run over a block and checked is consistent. -/
theorem consistent_runVoice {c : Config} {p : Vector NUM 26} {b : NUM} {d : Nat → NUM} {mods : List ModFrame}
    {v : Voice} (h : v.Consistent c b) (ha : v.active = true) :
    (deactivationCheck c (scanBlock (voiceFrame c p b d) v mods).1).Consistent c b := by
  have hrun := scanBlock_induct (f := voiceFrame c p b d) (P := fun v => v.active = true ∧ Tuned c b v)
    (fun v m hv => ⟨hv.1, hv.2.of_same (sameNote_voiceFrame c p b d v m)⟩) v mods
    ⟨ha, ((consistent_of_active ha).mp h).1⟩
  exact consistent_deactivationCheck hrun.1 hrun.2

theorem blockVoices_keep {P : Voice → Prop} {c : Config} {draws : Draws} {t n : Nat} {e : Engine}
    (hrun : ∀ d v, P v → v.active = true →
      P (deactivationCheck c (scanBlock (voiceFrame c e.params e.bendSemi d) v (blockMods c draws t n e).2).1))
    (h : ∀ j : Fin 6, P e.voices[j]) : ∀ j : Fin 6, P (blockVoices c draws t n e).1[j] := by
  unfold blockVoices
  exact List.foldlRecOn (motive := fun acc : Vector Voice 6 × List NUM => ∀ j : Fin 6, P acc.1[j]) slots _ h
    fun acc hacc k _ => renderSlot_voices (hrun _) hacc

theorem poolConsistent_keep {c : Config} {e e' : Engine} (h : PoolConsistent c e) (hstep : EngineStep c e e') :
    PoolConsistent c e' := by
  cases hstep with
  | same | volume | octave => exact h
  | noteOn a v vel =>
    exact forall_getElem_set (P := fun _ v => Voice.Consistent c e.bendSemi v) h
      (consistent_strikeVoice c _ _ (transposedNote_le _ _) _ _)
  | noteOff n =>
    rcases noteOffEngine_cases c e n with heq | ⟨k, l, ha, -, heq⟩
    · rw [heq]; exact h
    · rw [heq]
      exact forall_getElem_set (P := fun _ v => Voice.Consistent c e.bendSemi v) h (consistent_releaseVoice (h k) ha)
  | silence => exact forall_getElem_map fun j => consistent_silenceVoice (h j)
  | bend b => exact forall_getElem_map fun j => consistent_bendVoice (h j)
  | param k v x hx =>
    have hfan := paramEffect_fanOut k c e.params[k] x (e.setParam k x) (numOperand_mem (paramHi_nonneg k) hx).2
    intro j
    rw [paramEngine, hfan.sameRegisters.bendSemi]
    exact hfan.voices_keep (fun g v hg => consistent_voiceFanOut hg) h j
  | render draws t n =>
    rw [renderBlock_eq]
    exact blockVoices_keep (P := Voice.Consistent c e.bendSemi) (fun d v => consistent_runVoice) h

/-- Settles O56: a voice is made active by a note-on alone, and made inactive with its envelopes shut down. -/
theorem stepKeepsVoicesConsistent : Obligations.StepKeepsVoicesConsistent := by
  intro s t hs h ht
  rw [step_cfg h]
  exact step_keeps (P := PoolConsistent s.cfg) h (forall_getElem_replicate (consistent_initialVoice _ _))
    (fun e => poolConsistent_keep) hs ht

end Sys2Proof.Proofs

/-! SUPPORT. Every number of the render path stays in the range its rule gives, in exact arithmetic (R310). -/

namespace Sys2Proof.Proofs

open Sys2Proof.Machine

/-! ## What an admissible configuration gives in exact arithmetic -/

theorem meetsRules_of_valid {c : Config} (hc : c.Valid) (hn : c.num.carrier = .rational) : c.MeetsRules :=
  Config.exact_of_rational hn ▸ hc.rules

theorem numericsSound_of_meetsRules {c : Config} (hr : c.MeetsRules) : NumericsSound c.num := by
  by_cases h : c.num = .reference
  · rw [h]; exact numericsSound_reference
  · exact hr.num_sound h

theorem curve_clamp (n : Numerics) (t : CurveTable) (u : NUM) : curve n t (clamp u 0 1) = curve n t u := by
  have h : clamp (clamp u 0 1) 0 1 = clamp u 0 1 := clamp_of_mem (clamp_mem zero_le_one).1 (clamp_mem zero_le_one).2
  cases t <;> simp only [curve, h]

/-- What a table has at every value of [0, 1] it has at every control value (R160). -/
theorem curve_of_tableValues {c : Config} {t : CurveTable} {P : NUM → Prop} (h : tableValues c t P) (u : NUM) :
    P (curve c.num t u) :=
  curve_clamp c.num t u ▸ h _ (clamp_mem zero_le_one).1 (clamp_mem zero_le_one).2

/-! ## The ranges of an engine -/

/-- R40, R174: the seven shared smoothers. -/
def SharedInUnit (m : SharedSm) : Prop :=
  m.pitchMod.InUnit ∧ m.cutoff.InUnit ∧ m.res.InUnit ∧ m.envMod.InUnit ∧ m.lfoMod.InUnit ∧ m.kbdMod.InUnit ∧
    m.bendMod.InUnit

/-- Every number of an engine is in range. -/
def EngineInRange (c : Config) (e : Engine) : Prop :=
  (∀ k : Fin 6, (e.voices[k]).InRange c) ∧ SharedInUnit e.sm ∧ e.lfo.InRange ∧ e.hp.InRange c ∧ e.chorus.InRange c

theorem numbersInRange_iff (s : State) : s.NumbersInRange ↔ (s.instValid = true → EngineInRange s.cfg s.eng) := Iff.rfl

/-! ## Units run over a block -/

/-- What every sample keeps and yields, under inputs of a kind, the block keeps and yields. -/
theorem scanBlock_keeps {σ α β : Type} {f : σ → α → σ × β} {P : σ → Prop} {A : α → Prop} {Q : β → Prop}
    (step : ∀ s a, P s → A a → P (f s a).1 ∧ Q (f s a).2) {s : σ} {as : List α} (h : P s) (has : ∀ a ∈ as, A a) :
    P (scanBlock f s as).1 ∧ ∀ b ∈ (scanBlock f s as).2, Q b := by
  induction as generalizing s with
  | nil => exact ⟨h, fun b hb => absurd hb List.not_mem_nil⟩
  | cons a as ih =>
    obtain ⟨hP, hQ⟩ := step s a h (has a List.mem_cons_self)
    obtain ⟨ihP, ihQ⟩ := ih hP fun b hb => has b (List.mem_cons_of_mem a hb)
    exact ⟨ihP, List.forall_mem_cons.mpr ⟨hQ, ihQ⟩⟩

/-! ## Smoothers and one-poles (R171, R174) -/

theorem inUnit_snap {m : Smoother} (h : m.InUnit) : m.snap.InUnit := ⟨h.2, h.2⟩

theorem inUnit_setTarget {m : Smoother} (h : m.InUnit) {x : NUM} (h0 : 0 ≤ x) (h1 : x ≤ 1) :
    (m.setTarget x).InUnit := ⟨h.1, h0, h1⟩

theorem inUnit_atRest {x : NUM} (h0 : 0 ≤ x) (h1 : x ≤ 1) : (Smoother.atRest x).InUnit :=
  ⟨⟨h0, h1⟩, h0, h1⟩

theorem abs_onePole_le {n : Numerics} (hn : n.carrier = .rational) {y a x B : NUM} (ha : 0 ≤ a ∧ a ≤ 1) (hy : |y| ≤ B)
    (hx : |x| ≤ B) : |onePole n y a x| ≤ B := by
  have h1 : 0 ≤ 1 - a := by linarith [ha.2]
  calc |onePole n y a x| = |(1 - a) * y + a * x| := by rw [onePole_of_rational hn]; ring_nf
    _ ≤ (1 - a) * |y| + a * |x| := by
      refine (abs_add_le _ _).trans ?_
      rw [abs_mul, abs_mul, abs_of_nonneg h1, abs_of_nonneg ha.1]
    _ ≤ (1 - a) * B + a * B := add_le_add (mul_le_mul_of_nonneg_left hy h1) (mul_le_mul_of_nonneg_left hx ha.1)
    _ = B := by ring

/-- A product with a factor of [0, 1] is no larger. -/
theorem abs_mul_le_of_unit {x u B : NUM} (hx : |x| ≤ B) (hu : 0 ≤ u ∧ u ≤ 1) : |x * u| ≤ B := by
  rw [abs_mul, abs_of_nonneg hu.1]
  exact (mul_le_of_le_one_right (abs_nonneg x) hu.2).trans hx

section Exact

variable {c : Config} (hr : c.MeetsRules) (hn : c.num.carrier = .rational)

include hr hn

theorem inUnit_advance {m : Smoother} (h : m.InUnit) : (m.advance c).InUnit :=
  ⟨Smoother.advance_mem hn hr.smoothCoef_range.1.le hr.smoothCoef_range.2 h.1 h.2, h.2⟩

theorem onePoleCoef_mem {fc : NUM} (h : 0 < fc) : 0 ≤ onePoleCoef c.num fc ∧ onePoleCoef c.num fc ≤ 1 := by
  have hs := numericsSound_of_meetsRules hr
  have hneg : -Config.twoPiOverLn2 * fc / Config.fs < 0 := by
    unfold Config.twoPiOverLn2 Config.fs
    linarith
  rw [onePoleCoef, Numerics.sub_of_rational hn, Numerics.div_of_rational hn, Numerics.mul_of_rational hn]
  exact ⟨by linarith [hs.exp2_lt_one _ hneg], by linarith [hs.exp2_pos (-Config.twoPiOverLn2 * fc / Config.fs)]⟩

/-! ## The envelope (R190 K3) -/

omit hr in
theorem envStep_nonneg {t : NUM} (h : 0 < t) : 0 ≤ envStep c.num t := by
  rw [envStep, Numerics.div_of_rational hn, Numerics.mul_of_rational hn]
  unfold Config.fs
  positivity

omit hn in
theorem envAdmissible_cfgA (p : Vector NUM 26) : EnvAdmissible (cfgA c p) :=
  ⟨curve_of_tableValues hr.attack_table.2.1 _, curve_of_tableValues hr.decay_table.2.1 _,
    curve_of_tableValues hr.decay_table.2.1 _, curve_of_tableValues hr.sustain_table.2 _⟩

omit hr in
theorem attackSegment_level {cfg : EnvCfg} (hcfg : EnvAdmissible cfg) {e : EnvState} (h : e.InRange) :
    0 ≤ (attackSegment c cfg e).1.level ∧ (attackSegment c cfg e).1.level ≤ 1 := by
  obtain ⟨h0, h1, -⟩ := h
  have hstep := envStep_nonneg hn hcfg.1
  unfold attackSegment
  cases c.envKernel with
  | reference =>
    simp only [Numerics.add_of_rational hn]
    split_ifs with hl
    · exact ⟨zero_le_one, le_rfl⟩
    · exact ⟨add_nonneg h0 hstep, (not_le.mp hl).le⟩
  | program k => exact ⟨h0.trans (le_max_left _ _), max_le h1 (runSegment_level_mem _ _ _ _).2⟩

omit hr in
/-- A decay that has not ended is above the sustain level and has not risen. -/
theorem decaySegment_level {cfg : EnvCfg} (hcfg : EnvAdmissible cfg) {e : EnvState} (h : e.InRange)
    (hrun : (decaySegment c cfg e).2 = false) :
    0 ≤ (decaySegment c cfg e).1.level ∧ (decaySegment c cfg e).1.level ≤ 1 := by
  obtain ⟨h0, h1, -⟩ := h
  have hstep := envStep_nonneg hn hcfg.2.1
  unfold decaySegment at hrun ⊢
  cases hk : c.envKernel with
  | reference =>
    simp only [hk, Numerics.sub_of_rational hn, decide_eq_false_iff_not, not_le] at hrun ⊢
    exact ⟨by linarith [hcfg.2.2.2.1], by linarith⟩
  | program k => exact runSegment_level_mem _ _ _ _

/-- A release that has not ended is above ENV_IDLE_EPS and has not risen. -/
theorem releaseSegment_level {cfg : EnvCfg} (hcfg : EnvAdmissible cfg) {e : EnvState} (h : e.InRange)
    (hrun : (releaseSegment c cfg e).2 = false) :
    0 ≤ (releaseSegment c cfg e).1.level ∧ (releaseSegment c cfg e).1.level ≤ 1 := by
  obtain ⟨h0, h1, -⟩ := h
  have hstep := envStep_nonneg hn hcfg.2.2.1
  unfold releaseSegment at hrun ⊢
  cases hk : c.envKernel with
  | reference =>
    simp only [hk, Numerics.sub_of_rational hn, decide_eq_false_iff_not, not_le] at hrun ⊢
    exact ⟨by linarith [hr.thresholds.1], by linarith⟩
  | program k =>
    exact ⟨le_min h0 (runSegment_level_mem _ _ _ _).1, (min_le_left _ _).trans h1⟩

omit hr hn in
theorem envShutdown_inRange (c : Config) : (envShutdown c).InRange := ⟨le_rfl, zero_le_one, fun _ => rfl⟩

omit hr hn in
theorem envNoteOn_inRange {e : EnvState} (h : e.InRange) : (envNoteOn c e).InRange := by
  unfold envNoteOn
  cases c.envRetrig with
  | keep => exact ⟨h.1, h.2.1, fun hidle => by cases hidle⟩
  | zero => exact ⟨le_rfl, zero_le_one, fun hidle => by cases hidle⟩

omit hr hn in
theorem envNoteOff_inRange {e : EnvState} (h : e.InRange) : (envNoteOff e).InRange := by
  unfold envNoteOff
  split
  case h_4 | h_5 => exact h
  all_goals exact ⟨h.1, h.2.1, fun hidle => by cases hidle⟩

theorem envAdvance_inRange {cfg : EnvCfg} (hcfg : EnvAdmissible cfg) {e : EnvState} (h : e.InRange) :
    (envAdvance c cfg e).InRange := by
  have hsus := hcfg.2.2.2
  unfold envAdvance
  cases hstage : e.stage with
  | idle => exact ⟨le_rfl, zero_le_one, fun _ => rfl⟩
  | attack =>
    obtain ⟨h0, h1⟩ := attackSegment_level hn hcfg h
    refine ⟨h0, h1, fun hidle => ?_⟩
    dsimp only at hidle
    split at hidle <;> cases hidle
  | decay =>
    dsimp only
    split
    · exact ⟨hsus.1, hsus.2, fun hidle => by cases hidle⟩
    case isFalse hrun =>
      obtain ⟨h0, h1⟩ := decaySegment_level hn hcfg h (Bool.eq_false_iff.mpr hrun)
      exact ⟨h0, h1, fun hidle => by cases hidle⟩
  | sustain => exact ⟨hsus.1, hsus.2, fun hidle => by cases hidle⟩
  | release =>
    dsimp only
    split
    · exact ⟨le_rfl, zero_le_one, fun _ => rfl⟩
    case isFalse hrun =>
      obtain ⟨h0, h1⟩ := releaseSegment_level hr hn hcfg h (Bool.eq_false_iff.mpr hrun)
      exact ⟨h0, h1, fun hidle => by cases hidle⟩

/-! ## The oscillator (R37, R220) -/

omit hr hn in
theorem oscSnap_inRange {o : OscState} (h : o.InRange) : (oscSnap o).InRange := by
  obtain ⟨hsaw, hpulse, hsub, hnoise, hphase⟩ := h
  exact ⟨inUnit_snap hsaw, inUnit_snap hpulse, inUnit_snap hsub, inUnit_snap hnoise, hphase⟩

omit hr hn in
theorem oscReset_inRange {o : OscState} (h : o.InRange) : (oscReset c o).InRange := by
  obtain ⟨hsaw, hpulse, hsub, hnoise, -⟩ := oscSnap_inRange h
  exact ⟨hsaw, hpulse, hsub, hnoise, le_rfl, zero_lt_one⟩

theorem oscAdvance_inRange {o : OscState} (h : o.InRange) (f pwm d : NUM) : (oscAdvance c o f pwm d).InRange := by
  obtain ⟨hsaw, hpulse, hsub, hnoise, hphase⟩ := h
  obtain ⟨esaw, epulse, esub, enoise⟩ := oscAdvance_levels c o f pwm d
  refine ⟨?_, ?_, ?_, ?_, ?_⟩
  · rw [esaw]; exact inUnit_advance hr hn hsaw
  · rw [epulse]; exact inUnit_advance hr hn hpulse
  · rw [esub]; exact inUnit_advance hr hn hsub
  · rw [enoise]; exact inUnit_advance hr hn hnoise
  · unfold oscAdvance
    cases c.oscKernel with
    | reference => exact frac_mem hn _
    | program k => exact hphase

omit hr in
/-- Every waveform of an oscillator is in [-1, 1] (R220 K5). -/
theorem oscWaves_le {o : OscState} (h : o.InRange) {d : NUM} (hd : -1 ≤ d ∧ d ≤ 1) (pwm : NUM) :
    |(oscWaves c o pwm d).saw| ≤ 1 ∧ |(oscWaves c o pwm d).pulse| ≤ 1 ∧ |(oscWaves c o pwm d).sub| ≤ 1 ∧
      |(oscWaves c o pwm d).noise| ≤ 1 := by
  obtain ⟨-, -, -, -, h0, h1⟩ := h
  unfold oscWaves
  cases c.oscKernel with
  | reference =>
    refine ⟨?_, ?_, ?_, abs_le.mpr hd⟩
    · simp only [Numerics.sub_of_rational hn, Numerics.mul_of_rational hn]
      exact abs_le.mpr ⟨by linarith, by linarith⟩
    · dsimp only
      split <;> norm_num
    · cases o.subSign <;> norm_num [signNum]
  | program k =>
    exact ⟨abs_le.mpr (clampUnit_mem _), abs_le.mpr (clampUnit_mem _), abs_le.mpr (clampUnit_mem _),
      abs_le.mpr (clampUnit_mem _)⟩

omit hr in
/-- The mix of four waveforms at levels of [0, 1]. -/
theorem oscMix_le {o : OscState} (h : o.InRange) {d : NUM} (hd : -1 ≤ d ∧ d ≤ 1) (pwm : NUM) :
    |oscMix c o pwm d| ≤ 4 := by
  obtain ⟨wsaw, wpulse, wsub, wnoise⟩ := oscWaves_le hn h hd pwm
  obtain ⟨⟨hsaw, -⟩, ⟨hpulse, -⟩, ⟨hsub, -⟩, ⟨hnoise, -⟩, -⟩ := h
  have psaw := abs_le.mp (abs_mul_le_of_unit wsaw hsaw)
  have ppulse := abs_le.mp (abs_mul_le_of_unit wpulse hpulse)
  have psub := abs_le.mp (abs_mul_le_of_unit wsub hsub)
  have pnoise := abs_le.mp (abs_mul_le_of_unit wnoise hnoise)
  simp only [oscMix, Numerics.sum_of_rational hn, Numerics.mul_of_rational hn, List.sum_cons, List.sum_nil]
  exact abs_le.mpr ⟨by linarith, by linarith⟩

theorem oscSample_inRange {o : OscState} (h : o.InRange) (f pwm r : NUM) :
    (oscSample c o f pwm (drawValue r)).1.InRange ∧ |(oscSample c o f pwm (drawValue r)).2| ≤ 4 :=
  ⟨oscAdvance_inRange hr hn h f pwm _, oscMix_le hn (oscAdvance_inRange hr hn h f pwm _) (drawValue_mem r) pwm⟩

/-! ## The voice filter (R249) -/

/-- A bound on a signal behind the voice filter, where that is the reference one. -/
def MixBounded (c : Config) (B x : NUM) : Prop := c.vcfKernel = .reference → |x| ≤ B

omit hn in
theorem vcfReset_inRange : (vcfReset c).InRange c := by
  intro _
  have hB : |(0 : NUM)| ≤ 4 + c.resK := by rw [abs_zero]; linarith [hr.resK_nonneg]
  exact ⟨hB, hB, hB, hB⟩

omit hn in
/-- The input of the first stage less its feedback (R249). -/
theorem vcfInput_le {x r y : NUM} (hx : |x| ≤ 4) (hres : 0 ≤ r ∧ r ≤ 1) :
    |x - c.resK * r * tanh c.num y| ≤ 4 + c.resK := by
  have htanh : |tanh c.num y| ≤ 1 := by
    obtain ⟨h1, h2⟩ := (numericsSound_of_meetsRules hr).tanh_bound y
    exact abs_le.mpr ⟨h1.le, h2.le⟩
  have hback : |c.resK * r * tanh c.num y| ≤ c.resK := by
    calc |c.resK * r * tanh c.num y| = c.resK * |tanh c.num y * r| := by
          rw [mul_assoc, abs_mul, abs_of_nonneg hr.resK_nonneg, mul_comm r]
      _ ≤ c.resK * 1 := mul_le_mul_of_nonneg_left (abs_mul_le_of_unit htanh hres) hr.resK_nonneg
      _ = c.resK := mul_one _
  exact (abs_sub _ _).trans (add_le_add hx hback)

theorem vcfAdvance_inRange {s : VcfState} (h : s.InRange c) {x fc r : NUM} (hx : |x| ≤ 4) (hres : 0 ≤ r ∧ r ≤ 1) :
    (vcfAdvance c s x fc r).InRange c := by
  intro hk
  obtain ⟨h1, h2, h3, h4⟩ := h hk
  have ha : 0 ≤ onePoleCoef c.num (clamp fc c.cutoffMinHz c.cutoffMaxHz) ∧
      onePoleCoef c.num (clamp fc c.cutoffMinHz c.cutoffMaxHz) ≤ 1 :=
    onePoleCoef_mem hr hn (hr.cutoff_range.1.trans_le (clamp_mem hr.cutoff_range.2).1)
  have hu : |c.num.sub x (c.num.prod [c.resK, r, tanh c.num s.y4])| ≤ 4 + c.resK := by
    simp only [Numerics.sub_of_rational hn, Numerics.prod_of_rational hn, List.prod_cons, List.prod_nil, mul_one,
      ← mul_assoc]
    exact vcfInput_le hr hx hres
  have y1 := abs_onePole_le hn ha h1 hu
  have y2 := abs_onePole_le hn ha h2 y1
  have y3 := abs_onePole_le hn ha h3 y2
  have y4 := abs_onePole_le hn ha h4 y3
  simp only [vcfAdvance, hk]
  exact ⟨y1, y2, y3, y4⟩

theorem vcfSample_inRange {s : VcfState} (h : s.InRange c) {x fc r : NUM} (hx : |x| ≤ 4) (hres : 0 ≤ r ∧ r ≤ 1) :
    (vcfSample c s x fc r).1.InRange c ∧ MixBounded c (4 + c.resK) (vcfSample c s x fc r).2 := by
  have h' := vcfAdvance_inRange hr hn h (fc := fc) hx hres
  refine ⟨h', fun hk => ?_⟩
  obtain ⟨-, -, -, h4⟩ := h' hk
  rw [vcfSample, vcfOut_reference hk]
  exact h4

/-! ## One sample of a voice (R329, R332) -/

omit hr hn in
theorem currentEnv_inRange {v : Voice} (h : v.InRange c) : (currentEnv v).InRange := by
  obtain ⟨-, -, -, hA, hG, -⟩ := h
  rcases currentEnv_envelopes v with he | he
  · rw [he]; exact hA
  · rw [he]; exact hG

theorem advanceEnvelopes_inRange {v : Voice} (h : v.InRange c) (p : Vector NUM 26) :
    (advanceEnvelopes c p v).InRange c := by
  obtain ⟨hvel, hosc, hvcf, hA, hG, hpwm⟩ := h
  refine ⟨hvel, hosc, hvcf, envAdvance_inRange hr hn (envAdmissible_cfgA hr p) hA, ?_, hpwm⟩
  unfold advanceEnvelopes
  cases v.vcaMode with
  | envelopeGated => exact hG
  | gateSwitched => exact envAdvance_inRange hr hn (by norm_num [EnvAdmissible, Config.gateEnv]) hG

/-- What the shared modulation gives a voice that its ranges depend on: a resonance of [0, 1]. -/
def ModInRange (m : ModFrame) : Prop := 0 ≤ m.res ∧ m.res ≤ 1

/-- A sample of a voice keeps its numbers in range and adds at most a sixth of the filter's bound to the mix. -/
theorem voiceFrame_inRange {v : Voice} (h : v.InRange c) {m : ModFrame} (hm : ModInRange m) (p : Vector NUM 26)
    (b : NUM) (draw : Nat → NUM) :
    (voiceFrame c p b draw v m).1.InRange c ∧
      MixBounded c ((4 + c.resK) / 6) (voiceFrame c p b draw v m).2 := by
  have h1 := advanceEnvelopes_inRange hr hn h p
  obtain ⟨hamp0, hamp1, -⟩ := currentEnv_inRange h1
  obtain ⟨hvel, hosc, hvcf, hA, hG, hpwm⟩ := h1
  obtain ⟨hosc', hx⟩ := oscSample_inRange hr hn hosc (oscFreq c.num p v.freq m.detune)
    (c.num.mul (v.pwmSm.advance c).y (pwmSource c v.pwmSrc m.lfo (advanceEnvelopes c p v).envA.level
      (currentEnv (advanceEnvelopes c p v)).level)) (draw m.frame)
  refine ⟨⟨hvel, hosc', (vcfSample_inRange hr hn hvcf hx hm).1, hA, hG, inUnit_advance hr hn hpwm⟩, fun hk => ?_⟩
  simp only [voiceFrame, Numerics.div_of_rational hn, Numerics.prod_of_rational hn, List.prod_cons, List.prod_nil,
    mul_one, Config.mixDiv, ← mul_assoc]
  rw [abs_div, abs_of_pos (by norm_num : (0 : NUM) < 6)]
  refine div_le_div_of_nonneg_right ?_ (by norm_num)
  have hout (fc : NUM) := (vcfSample_inRange hr hn hvcf (fc := fc) hx hm).2 hk
  exact abs_mul_le_of_unit (abs_mul_le_of_unit (abs_mul_le_of_unit (hout _) ⟨hamp0, hamp1⟩) hvel) hvel

omit hn in
theorem deactivationCheck_inRange {v : Voice} (h : v.InRange c) : (deactivationCheck c v).InRange c := by
  rcases deactivationCheck_cases c v with ⟨-, he⟩ | ⟨-, he⟩
  · rw [he]; exact h
  · obtain ⟨hvel, hosc, -, -, -, hpwm⟩ := h
    rw [he]
    exact ⟨hvel, oscReset_inRange hosc, vcfReset_inRange hr, envShutdown_inRange c, envShutdown_inRange c, hpwm⟩

/-! ## The LFO (R41, R269 K3) -/

omit hr hn in
theorem lfoShutdown_inRange : (lfoShutdown c).InRange :=
  ⟨⟨le_rfl, zero_lt_one⟩, by norm_num [lfoShutdown], ⟨le_rfl, zero_le_one⟩, by norm_num [lfoShutdown]⟩

omit hr hn in
theorem lfoNoteOn_inRange {l : LfoState} (h : l.InRange) : (lfoNoteOn l).InRange := by
  obtain ⟨hphase, hout, -, hhold⟩ := h
  exact ⟨hphase, hout, ⟨le_rfl, zero_le_one⟩, hhold⟩

omit hr in
theorem lfoCount_ramp {p : Vector NUM 26} {l : LfoState} (h : 0 ≤ l.ramp ∧ l.ramp ≤ 1) :
    0 ≤ (lfoCount c p l).ramp ∧ (lfoCount c p l).ramp ≤ 1 := by
  have hd : (lfoDelayStep (lfoDelaySamples c p) l).ramp = l.ramp := by
    unfold lfoDelayStep
    split
    · split <;> rfl
    all_goals rfl
  unfold lfoCount
  generalize lfoDelayStep (lfoDelaySamples c p) l = m at hd
  unfold lfoAttackStep
  split
  · dsimp only
    split
    case isTrue hlt =>
      have hpos : (0 : NUM) ≤ ((m.cnt + 1 : Nat) : NUM) := Nat.cast_nonneg _
      rw [Numerics.div_of_rational hn]
      exact ⟨div_nonneg hpos (hpos.trans hlt.le), div_le_one_of_le₀ hlt.le (hpos.trans hlt.le)⟩
    case isFalse => exact ⟨zero_le_one, le_rfl⟩
  all_goals exact hd ▸ h

omit hr hn in
theorem lfoCount_hold (p : Vector NUM 26) (l : LfoState) : (lfoCount c p l).hold = l.hold := by
  unfold lfoCount lfoAttackStep lfoDelayStep
  cases l.stage <;> dsimp only <;> repeat' split
  all_goals rfl

omit hr in
theorem lfoWaveAt_le {q hold d : NUM} (hq : 0 ≤ q ∧ q < 1) (hhold : |hold| ≤ 1) (hd : -1 ≤ d ∧ d ≤ 1) :
    |lfoWaveAt c q hold d| ≤ 1 := by
  obtain ⟨h0, h1⟩ := hq
  unfold lfoWaveAt
  cases c.lfoWave with
  | triangle =>
    simp only [triangleWave, Numerics.mul_of_rational hn, Numerics.sub_of_rational hn]
    split_ifs <;> exact abs_le.mpr ⟨by linarith, by linarith⟩
  | sine => exact abs_le.mpr (clamp_mem (by norm_num))
  | square =>
    dsimp only
    split <;> norm_num
  | random => exact hhold
  | noise => exact abs_le.mpr hd

omit hr hn in
theorem lfoHold_le {w : Bool} {d hold : NUM} (hhold : |hold| ≤ 1) (hd : -1 ≤ d ∧ d ≤ 1) : |lfoHold c w d hold| ≤ 1 := by
  unfold lfoHold
  split
  · split
    · exact abs_le.mpr hd
    · exact hhold
  all_goals exact hhold

omit hr in
/-- A sample of the waveform keeps the phase and the held value in range and is in [-1, 1] (R269 K3). -/
theorem lfoWaveform_inRange {p : Vector NUM 26} {d : NUM} (hd : -1 ≤ d ∧ d ≤ 1) {l : LfoState} (hhold : |l.hold| ≤ 1) :
    (0 ≤ (lfoWaveform c p d l).1.phase ∧ (lfoWaveform c p d l).1.phase < 1) ∧ |(lfoWaveform c p d l).1.hold| ≤ 1 ∧
      |(lfoWaveform c p d l).2| ≤ 1 := by
  unfold lfoWaveform
  cases c.lfoKernel with
  | reference => exact ⟨frac_mem hn _, lfoHold_le hhold hd, lfoWaveAt_le hn (frac_mem hn _) (lfoHold_le hhold hd) hd⟩
  | program k => exact ⟨frac_mem hn _, hhold, abs_le.mpr (clampUnit_mem _)⟩

omit hr hn in
theorem lfoGain_mem {u : NUM} (h : 0 ≤ u ∧ u ≤ 1) : 0 ≤ lfoGain c u ∧ lfoGain c u ≤ 1 := by
  unfold lfoGain
  cases c.lfoKernel with
  | reference => exact h
  | program k =>
    dsimp only
    split_ifs
    · exact ⟨le_rfl, zero_le_one⟩
    · exact ⟨zero_le_one, le_rfl⟩
    · exact clampPart_mem _

omit hr in
theorem lfoAdvance_inRange {p : Vector NUM 26} {d : NUM} (hd : -1 ≤ d ∧ d ≤ 1) {l : LfoState} (h : l.InRange) :
    (lfoAdvance c p d l).InRange := by
  obtain ⟨hphase, -, hramp, hhold⟩ := h
  by_cases hoff : l.stage = .off
  · rw [lfoAdvance_off hoff]
    exact ⟨hphase, by norm_num, hramp, hhold⟩
  · have hramp' := lfoCount_ramp hn (p := p) hramp
    obtain ⟨hphase', hhold', hwave⟩ := lfoWaveform_inRange hn (p := p) (l := lfoCount c p l) hd
      ((lfoCount_hold p l).symm ▸ hhold)
    obtain ⟨-, -, hframe, -⟩ := lfoWaveform_frame c p d (lfoCount c p l)
    rw [lfoAdvance_running hoff]
    refine ⟨hphase', ?_, hframe.symm ▸ hramp', hhold'⟩
    rw [Numerics.mul_of_rational hn]
    exact abs_mul_le_of_unit hwave (lfoGain_mem hramp')

/-! ## The effects chain (R290 to R305) -/

theorem hpfSample_inRange {p : Vector NUM 26} {s : HpfState} (h : s.InRange c) {x : NUM}
    (hx : MixBounded c (4 + c.resK) x) : (hpfSample c p s x).1.InRange c := by
  intro hv hk
  have ha := onePoleCoef_mem hr hn (curve_of_tableValues (hr.hpf_corner hk).1 p[23])
  simp only [hpfSample, hpfAdvance, hk]
  exact abs_onePole_le hn ha (h hv hk) (hx hv)

omit hn in
/-- R300 K1 in every kernel. -/
theorem softClip_le (x : NUM) : |softClip c x| ≤ 1 := by
  unfold softClip
  cases c.softClip with
  | reference =>
    obtain ⟨h1, h2⟩ := (numericsSound_of_meetsRules hr).tanh_bound (c.num.mul 3 x)
    exact abs_le.mpr ⟨h1.le, h2.le⟩
  | sampled lo hi bs => exact abs_le.mpr (clampUnit_mem _)
  | closed e => exact abs_le.mpr (clampUnit_mem _)

omit hr in
theorem chorusAdvance_inRange {s : ChorusState} (h : s.InRange c) {x : NUM} (hx : |x| ≤ 1) (en1 en2 : Bool) :
    (chorusAdvance c s x en1 en2).InRange c := by
  obtain ⟨hlen, hline, hw, hph⟩ := h
  unfold chorusAdvance
  cases c.chorusKernel with
  | reference =>
    refine ⟨List.length_set.trans hlen, fun y hy => ?_, Nat.mod_lt _ (Nat.zero_lt_of_lt hw), frac_mem hn _,
      frac_mem hn _⟩
    rcases List.mem_or_eq_of_mem_set hy with hy | rfl
    · exact hline y hy
    · exact hx
  | program k => exact ⟨hlen, hline, hw, hph⟩

/-- The two memories of the effects chain are in range. -/
def EffectsInRange (c : Config) (m : HpfState × ChorusState) : Prop := m.1.InRange c ∧ m.2.InRange c

theorem effectsFrame_inRange {p : Vector NUM 26} {m : HpfState × ChorusState} (h : EffectsInRange c m) {x : NUM}
    (hx : MixBounded c (4 + c.resK) x) : EffectsInRange c (effectsFrame c p m x).1 := by
  obtain ⟨hh, hc⟩ := h
  refine ⟨hpfSample_inRange hr hn hh hx, ?_⟩
  simp only [effectsFrame, chorusSample_state]
  exact chorusAdvance_inRange hn hc (softClip_le hr _) _ _

/-! ## A block (R322) -/

omit hr in
theorem blockLfo_inRange {e : Engine} (h : e.lfo.InRange) (draws : Draws) (t n : Nat) :
    (blockLfo c draws t n e).1.InRange := by
  unfold blockLfo
  exact scanBlock_induct (f := lfoFrame c e.params draws) (P := LfoState.InRange)
    (fun l t hl => lfoAdvance_inRange hn (drawValue_mem _) hl) e.lfo (List.range' t n) h

theorem smAdvanceAll_inUnit {m : SharedSm} (h : SharedInUnit m) : SharedInUnit (smAdvanceAll c m) := by
  obtain ⟨h0, h1, h2, h3, h4, h5, h6⟩ := h
  have adv {s : Smoother} (hs : s.InUnit) := inUnit_advance hr hn hs
  exact ⟨adv h0, adv h1, adv h2, adv h3, adv h4, adv h5, adv h6⟩

theorem blockMods_inRange {e : Engine} (h : SharedInUnit e.sm) (draws : Draws) (t n : Nat) :
    SharedInUnit (blockMods c draws t n e).1 ∧ ∀ m ∈ (blockMods c draws t n e).2, ModInRange m := by
  unfold blockMods
  refine scanBlock_keeps (A := fun _ => True) (fun m x hm _ => ?_) h fun _ _ => trivial
  have hm' := smAdvanceAll_inUnit hr hn hm
  have ⟨_, _, hres, _⟩ := hm'
  exact ⟨hm', hres.1⟩

/-- A voice run over a block. -/
theorem voiceRun_inRange {v : Voice} (h : v.InRange c) {mods : List ModFrame} (hm : ∀ m ∈ mods, ModInRange m)
    (p : Vector NUM 26) (b : NUM) (d : Nat → NUM) :
    (scanBlock (voiceFrame c p b d) v mods).1.InRange c ∧
      ∀ x ∈ (scanBlock (voiceFrame c p b d) v mods).2, MixBounded c ((4 + c.resK) / 6) x :=
  scanBlock_keeps (f := voiceFrame c p b d) (P := Voice.InRange c) (A := ModInRange)
    (Q := MixBounded c ((4 + c.resK) / 6)) (fun _ _ hv hm => voiceFrame_inRange hr hn hv hm p b d) h hm

omit hr in
theorem mixBounded_add {B B' : NUM} {xs ys : List NUM} (hx : ∀ x ∈ xs, MixBounded c B x)
    (hy : ∀ y ∈ ys, MixBounded c B' y) : ∀ z ∈ List.zipWith c.num.add xs ys, MixBounded c (B + B') z := by
  intro z hz hk
  rw [List.mem_iff_getElem] at hz
  obtain ⟨i, hi, rfl⟩ := hz
  rw [List.getElem_zipWith, Numerics.add_of_rational hn]
  exact (abs_add_le _ _).trans (add_le_add (hx _ (List.getElem_mem _) hk) (hy _ (List.getElem_mem _) hk))

/-- The pool in range, and the mix so far within a bound. -/
structure MixInRange (c : Config) (B : NUM) (acc : Vector Voice 6 × List NUM) : Prop where
  voices : ∀ j : Fin 6, (acc.1[j]).InRange c
  mix : ∀ x ∈ acc.2, MixBounded c B x

/-- A slot's turn raises the bound of the mix by a sixth of the filter's (R331). -/
theorem renderSlot_inRange {p : Vector NUM 26} {b : NUM} {draws : Draws} {mods : List ModFrame}
    (hm : ∀ m ∈ mods, ModInRange m) {B : NUM} {acc : Vector Voice 6 × List NUM} (h : MixInRange c B acc) (k : Fin 6) :
    MixInRange c (B + (4 + c.resK) / 6) (renderSlot c p b draws mods acc k) := by
  have hrun := voiceRun_inRange hr hn (h.voices k) hm p b (draws (.voice k))
  unfold renderSlot
  split
  · exact ⟨forall_getElem_set (P := fun _ => Voice.InRange c) h.voices (deactivationCheck_inRange hr hrun.1),
      mixBounded_add hn h.mix hrun.2⟩
  · exact ⟨h.voices, fun x hx hk => (h.mix x hx hk).trans (by linarith [hr.resK_nonneg])⟩

theorem renderSlots_inRange {p : Vector NUM 26} {b : NUM} {draws : Draws} {mods : List ModFrame}
    (hm : ∀ m ∈ mods, ModInRange m) (ks : List (Fin 6)) {B : NUM} {acc : Vector Voice 6 × List NUM}
    (h : MixInRange c B acc) :
    MixInRange c (B + ks.length * ((4 + c.resK) / 6)) (ks.foldl (renderSlot c p b draws mods) acc) := by
  induction ks generalizing B acc with
  | nil => simpa using h
  | cons k ks ih =>
    have hB : B + (k :: ks).length * ((4 + c.resK) / 6) =
        B + (4 + c.resK) / 6 + ks.length * ((4 + c.resK) / 6) := by
      rw [List.length_cons]
      push_cast
      ring
    rw [hB]
    exact ih (renderSlot_inRange hr hn hm h k)

/-- Six voices of at most a sixth of the filter's bound each: the mix is within that bound (R295, R331). -/
theorem blockVoices_inRange {e : Engine} (hv : ∀ j : Fin 6, (e.voices[j]).InRange c) (hsm : SharedInUnit e.sm)
    (draws : Draws) (t n : Nat) : MixInRange c (4 + c.resK) (blockVoices c draws t n e) := by
  have hstart : MixInRange c 0 (e.voices, List.replicate n (0 : NUM)) :=
    ⟨hv, fun x hx _ => by rw [List.eq_of_mem_replicate hx, abs_zero]⟩
  have h := renderSlots_inRange hr hn (p := e.params) (b := e.bendSemi) (draws := draws)
    (blockMods_inRange hr hn hsm draws t n).2 slots hstart
  have hB : 0 + (slots.length : NUM) * ((4 + c.resK) / 6) = 4 + c.resK := by
    have hlen : slots.length = 6 := rfl
    rw [hlen]
    push_cast
    ring
  unfold blockVoices
  exact hB ▸ h

theorem blockEffects_inRange {e : Engine} (hh : e.hp.InRange c) (hch : e.chorus.InRange c) {draws : Draws} {t n : Nat}
    (hmix : ∀ x ∈ (blockVoices c draws t n e).2, MixBounded c (4 + c.resK) x) :
    EffectsInRange c (blockEffects c draws t n e).1 := by
  unfold blockEffects
  exact (scanBlock_keeps (f := effectsFrame c e.params) (P := EffectsInRange c) (A := MixBounded c (4 + c.resK))
    (Q := fun _ => True) (s := (e.hp, e.chorus))
    (fun _ _ hm hx => ⟨effectsFrame_inRange hr hn hm hx, trivial⟩) ⟨hh, hch⟩ hmix).1

/-! ## The engine -/

theorem engineInRange_render {e : Engine} (h : EngineInRange c e) (draws : Draws) (t n : Nat) :
    EngineInRange c (renderBlock c draws t n e).eng := by
  obtain ⟨hv, hsm, hlfo, hh, hch⟩ := h
  have hmix := blockVoices_inRange hr hn hv hsm draws t n
  have hfx := blockEffects_inRange hr hn hh hch hmix.mix
  rw [renderBlock_eq]
  exact ⟨hmix.voices, (blockMods_inRange hr hn hsm draws t n).1, blockLfo_inRange hn hlfo draws t n, hfx⟩

omit hn in
theorem paramDefault_mem (i : Fin 26) (h3 : i.val ≠ 3) (h8 : i.val ≠ 8) :
    0 ≤ c.paramDefault[i] ∧ c.paramDefault[i] ≤ 1 :=
  ⟨(hr.default_domain i).1, (hr.default_domain i).2.trans_eq (paramHi_of_ne h3 h8)⟩

omit hn in
theorem inUnit_paramDefault (i : Fin 26) (h3 : i.val ≠ 3) (h8 : i.val ≠ 8) :
    (Smoother.atRest c.paramDefault[i]).InUnit :=
  inUnit_atRest (paramDefault_mem hr i h3 h8).1 (paramDefault_mem hr i h3 h8).2

omit hn in
theorem initialVoice_inRange : (initialVoice c).InRange c := by
  have h (i : Fin 26) (h3 : i.val ≠ 3) (h8 : i.val ≠ 8) := inUnit_paramDefault hr i h3 h8
  exact ⟨⟨le_rfl, zero_le_one⟩, ⟨h 4 (by decide) (by decide), h 5 (by decide) (by decide), h 6 (by decide) (by decide),
    h 7 (by decide) (by decide), le_rfl, zero_lt_one⟩, vcfReset_inRange hr, envShutdown_inRange c,
    envShutdown_inRange c, h 2 (by decide) (by decide)⟩

omit hn in
theorem initialChorus_inRange : (initialChorus c).InRange c := by
  obtain ⟨hdepth, hnear, hfar⟩ := hr.chorus_taps
  have hlen : (0 : NUM) < c.chLen := by linarith
  refine ⟨List.length_replicate, fun x hx => ?_, by exact_mod_cast hlen, ⟨le_rfl, zero_lt_one⟩, le_rfl, zero_lt_one⟩
  rw [List.eq_of_mem_replicate hx, abs_zero]
  exact zero_le_one

omit hn in
theorem engineInRange_initialEngine : EngineInRange c (initialEngine c) := by
  have h (i : Fin 26) (h3 : i.val ≠ 3) (h8 : i.val ≠ 8) := inUnit_paramDefault hr i h3 h8
  refine ⟨forall_getElem_replicate (initialVoice_inRange hr), ?_, lfoShutdown_inRange, fun _ _ => ?_,
    initialChorus_inRange hr⟩
  · exact ⟨h 9 (by decide) (by decide), h 10 (by decide) (by decide), h 11 (by decide) (by decide),
      h 12 (by decide) (by decide), h 13 (by decide) (by decide), h 14 (by decide) (by decide),
      h 15 (by decide) (by decide)⟩
  · have hlp : (initialEngine c).hp.lp = 0 := rfl
    rw [hlp, abs_zero]
    linarith [hr.resK_nonneg]

omit hr hn in
theorem strikeVoice_inRange {v : Voice} (h : v.InRange c) (p : Vector NUM 26) (b : NUM) (n : Nat) {x : NUM}
    (hx : 0 ≤ x ∧ x ≤ 1) : (strikeVoice c p b n x v).InRange c := by
  obtain ⟨-, hosc, hvcf, hA, hG, hpwm⟩ := h
  exact ⟨hx, oscSnap_inRange hosc, hvcf, envNoteOn_inRange hA, envNoteOn_inRange hG, hpwm⟩

omit hr hn in
theorem releaseVoice_inRange {v : Voice} (h : v.InRange c) : (releaseVoice v).InRange c := by
  obtain ⟨hvel, hosc, hvcf, hA, hG, hpwm⟩ := h
  exact ⟨hvel, hosc, hvcf, envNoteOff_inRange hA, envNoteOff_inRange hG, hpwm⟩

omit hr hn in
theorem silenceVoice_inRange {v : Voice} (h : v.InRange c) : (silenceVoice c v).InRange c := by
  unfold silenceVoice
  split
  · obtain ⟨hvel, hosc, hvcf, -, -, hpwm⟩ := h
    exact ⟨hvel, hosc, hvcf, envShutdown_inRange c, envShutdown_inRange c, hpwm⟩
  · exact h

omit hr hn in
theorem bendVoice_inRange {v : Voice} (h : v.InRange c) (b : NUM) : (bendVoice c.num b v).InRange c := by
  unfold bendVoice
  split
  · exact h
  · exact h

omit hr hn in
theorem voiceFanOut_inRange {x : NUM} (hx : 0 ≤ x) {g : Voice → Voice} (hg : VoiceFanOut x g) {v : Voice}
    (h : v.InRange c) : (g v).InRange c := by
  obtain ⟨hvel, ⟨hsaw, hpulse, hsub, hnoise, hphase⟩, hvcf, hA, hG, hpwm⟩ := h
  cases hg with
  | pwmSm hx1 => exact ⟨hvel, ⟨hsaw, hpulse, hsub, hnoise, hphase⟩, hvcf, hA, hG, inUnit_setTarget hpwm hx hx1⟩
  | pwmSrc => exact ⟨hvel, ⟨hsaw, hpulse, hsub, hnoise, hphase⟩, hvcf, hA, hG, hpwm⟩
  | saw hx1 => exact ⟨hvel, ⟨inUnit_setTarget hsaw hx hx1, hpulse, hsub, hnoise, hphase⟩, hvcf, hA, hG, hpwm⟩
  | pulse hx1 => exact ⟨hvel, ⟨hsaw, inUnit_setTarget hpulse hx hx1, hsub, hnoise, hphase⟩, hvcf, hA, hG, hpwm⟩
  | sub hx1 => exact ⟨hvel, ⟨hsaw, hpulse, inUnit_setTarget hsub hx hx1, hnoise, hphase⟩, hvcf, hA, hG, hpwm⟩
  | noise hx1 => exact ⟨hvel, ⟨hsaw, hpulse, hsub, inUnit_setTarget hnoise hx hx1, hphase⟩, hvcf, hA, hG, hpwm⟩

omit hr hn in
theorem smFanOut_inUnit {x : NUM} (hx : 0 ≤ x) (hx1 : x ≤ 1) {g : SharedSm → SharedSm} (hg : SmFanOut x g)
    {m : SharedSm} (h : SharedInUnit m) : SharedInUnit (g m) := by
  obtain ⟨h0, h1, h2, h3, h4, h5, h6⟩ := h
  cases hg with
  | pitchMod => exact ⟨inUnit_setTarget h0 hx hx1, h1, h2, h3, h4, h5, h6⟩
  | cutoff => exact ⟨h0, inUnit_setTarget h1 hx hx1, h2, h3, h4, h5, h6⟩
  | res => exact ⟨h0, h1, inUnit_setTarget h2 hx hx1, h3, h4, h5, h6⟩
  | envMod => exact ⟨h0, h1, h2, inUnit_setTarget h3 hx hx1, h4, h5, h6⟩
  | lfoMod => exact ⟨h0, h1, h2, h3, inUnit_setTarget h4 hx hx1, h5, h6⟩
  | kbdMod => exact ⟨h0, h1, h2, h3, h4, inUnit_setTarget h5 hx hx1, h6⟩
  | bendMod => exact ⟨h0, h1, h2, h3, h4, h5, inUnit_setTarget h6 hx hx1⟩

omit hr hn in
theorem fanOut_inRange {x : NUM} (hx : 0 ≤ x) {e e' : Engine} (hfan : FanOut c x e e') (h : EngineInRange c e) :
    EngineInRange c e' := by
  obtain ⟨hv, hsm, hlfo, hfx⟩ := h
  cases hfan with
  | none => exact ⟨hv, hsm, hlfo, hfx⟩
  | voices hg => exact ⟨forall_getElem_map fun j => voiceFanOut_inRange hx hg (hv j), hsm, hlfo, hfx⟩
  | sm hx1 hg => exact ⟨hv, smFanOut_inUnit hx hx1 hg hsm, hlfo, hfx⟩
  | lfo => exact ⟨hv, hsm, lfoShutdown_inRange, hfx⟩

theorem engineInRange_keep {e e' : Engine} (h : EngineInRange c e) (hstep : EngineStep c e e') :
    EngineInRange c e' := by
  obtain ⟨hv, hsm, hlfo, hfx⟩ := h
  cases hstep with
  | same | volume | octave => exact ⟨hv, hsm, hlfo, hfx⟩
  | noteOn a v vel hvel =>
    refine ⟨forall_getElem_set (P := fun _ v => Voice.InRange c v) hv
      (strikeVoice_inRange (hv _) _ _ _ (numOperand_mem zero_le_one hvel)), hsm, ?_, hfx⟩
    unfold noteOnEngine
    dsimp only
    split
    · exact lfoNoteOn_inRange hlfo
    · exact hlfo
  | noteOff n =>
    rcases noteOffEngine_cases c e n with heq | ⟨k, l, -, hl, heq⟩
    · rw [heq]; exact ⟨hv, hsm, hlfo, hfx⟩
    · rw [heq]
      refine ⟨forall_getElem_set (P := fun _ v => Voice.InRange c v) hv (releaseVoice_inRange (hv k)), hsm, ?_, hfx⟩
      rcases hl with rfl | rfl
      · exact hlfo
      · exact hlfo
  | silence => exact ⟨forall_getElem_map fun j => silenceVoice_inRange (hv j), hsm, hlfo, hfx⟩
  | bend b => exact ⟨forall_getElem_map fun j => bendVoice_inRange (hv j) _, hsm, hlfo, hfx⟩
  | param k v x hx =>
    obtain ⟨h0, h1⟩ := numOperand_mem (paramHi_nonneg k) hx
    exact fanOut_inRange h0 (paramEffect_fanOut k c _ x _ h1) ⟨hv, hsm, hlfo, hfx⟩
  | render draws t n => exact engineInRange_render hr hn ⟨hv, hsm, hlfo, hfx⟩ draws t n

end Exact

/-- Settles O59: every unit of the render path keeps its range for a sample, so for a block. -/
theorem stepKeepsNumbersInRange : Obligations.StepKeepsNumbersInRange := by
  intro s t hc hn hs h
  have hr := meetsRules_of_valid hc hn
  rw [numbersInRange_iff, step_cfg h]
  exact step_keeps h (engineInRange_initialEngine hr) (fun e => engineInRange_keep hr hn) hs

end Sys2Proof.Proofs

/-! SUPPORT. Reset, a machine with no engine created, the range of the bend, and parameters written and read back. -/

namespace Sys2Proof.Proofs

open Sys2Proof.Machine

/-! ## INST_VALID 0 (R30, R110, R420) -/

/-- The invariants say nothing while INST_VALID is 0. -/
theorem invariants_of_invalid {s : State} (h : s.instValid = false) :
    s.ParamsInDomain ∧ s.ControlsInRange ∧ s.VoicesConsistent ∧ s.TargetsAgree ∧ s.LfoConsistent ∧
      s.NumbersInRange := by
  have hno {P : Prop} (hs : s.instValid = true) : P := absurd (h.symm.trans hs) Bool.false_ne_true
  exact ⟨fun hs => hno hs, fun hs => hno hs, fun hs => hno hs, fun hs => hno hs, fun hs => hno hs, fun hs => hno hs⟩

/-- Settles O60: both kinds of reset clear INST_VALID, and the reference configuration is admissible. -/
theorem resetState : Obligations.ResetState :=
  ⟨⟨rfl, rfl, rfl, rfl, Tests.witness_config_valid, invariants_of_invalid rfl⟩,
    fun _ => ⟨rfl, rfl, rfl, rfl, rfl, invariants_of_invalid rfl⟩⟩

/-- Every command but `CREATE` and `RENDER` is answered NOINST and does nothing else. -/
theorem exec_of_invalid {i : Instr} {s : State} (hs : s.instValid = false) (hcreate : i ≠ .create)
    (hrender : ∀ b, i ≠ .render b) : exec i s = .next (s.respond (opcodeOf i) statusNoinst 0 0) := by
  obtain ⟨cfg, valid⟩ := s
  cases hs
  cases i with
  | create => exact absurd rfl hcreate
  | render b => exact absurd rfl (hrender b)
  | _ => rfl

/-- `RENDER` with INST_VALID 0 emits silence (R321). -/
theorem exec_render_of_invalid {s : State} (hs : s.instValid = false) (b : Nat) :
    exec (.render b) s =
      .next ((s.emit (List.replicate (frameCount b) 0)).respond opRender statusNoinst (frameCount b) 0) := by
  rw [exec, execRender, renderWith, hs]
  rfl

/-- Settles O14: every command but `CREATE` begins with the check of INST_VALID. -/
theorem noInstanceMeansNoOperation : Obligations.NoInstanceMeansNoOperation := by
  intro i s hs hcreate
  cases i with
  | create => exact absurd rfl hcreate
  | render b => exact exec_render_of_invalid hs b
  | _ => exact exec_of_invalid hs hcreate (fun _ => Instr.noConfusion)

/-! ## Which numbers are binary32 values (R9, R88) -/

/-- The fields of the pattern with sign bit `neg` and the significand `m` at the scale `k`. -/
theorem f32Decode_pattern {m k : Nat} (hm : m < 2 ^ 24) (hk : k ≤ 253) (hnorm : k = 0 ∨ 2 ^ 23 ≤ m) (neg : Bool) :
    f32Decode (BitVec.ofNat 32 ((if neg then 2 ^ 31 else 0) + (k * 2 ^ 23 + m))) =
      .fin ((if neg then -1 else 1) * (m * 2 ^ ((k : Int) - 149))) := by
  set v : Word32 := BitVec.ofNat 32 ((if neg then 2 ^ 31 else 0) + (k * 2 ^ 23 + m)) with hv
  have hnat : v.toNat = (if neg then 2 ^ 31 else 0) + (k * 2 ^ 23 + m) := by
    rw [hv, BitVec.toNat_ofNat]
    refine Nat.mod_eq_of_lt ?_
    split <;> omega
  have hsign : v.getLsbD 31 = neg := by
    rw [signBit_eq, hnat]
    cases neg with
    | true => rw [if_pos rfl, beq_iff_eq]; omega
    | false => rw [if_neg Bool.false_ne_true, beq_eq_false_iff_ne]; omega
  have hexp : patExp v = if m < 2 ^ 23 then 0 else k + 1 := by
    rw [patExp_eq, hnat]
    split_ifs <;> omega
  have hfrac : patFrac v = m % 2 ^ 23 := by
    rw [patFrac_eq, hnat]
    split_ifs <;> omega
  have hsig : patSig v = m := by
    unfold patSig
    rw [hexp, hfrac]
    by_cases hsub : m < 2 ^ 23
    · rw [if_pos hsub, if_pos rfl]; omega
    · rw [if_neg hsub, if_neg (Nat.succ_ne_zero k)]; omega
  have hscale : patExp v - 1 = k := by
    rw [hexp]
    split_ifs <;> omega
  have hfin : patExp v ≠ 255 := by
    rw [hexp]
    split_ifs <;> omega
  rw [f32Decode_eq, if_neg hfin, patSign, hsign, patMag, hsig, hscale]

/-- A whole number below 2^24 in magnitude, in units of a power of two from 2^-126 up to 1, is a binary32 value. -/
theorem isBinary32_of_dyadic {z : Int} (hz : z.natAbs < 2 ^ 24) {j : Nat} (hj : j ≤ 126) :
    IsBinary32 ((z : NUM) / 2 ^ j) := by
  by_cases h0 : z = 0
  · rw [h0, Int.cast_zero, zero_div]
    exact isBinary32_zero
  set m := z.natAbs with hm
  have hpos : m ≠ 0 := Int.natAbs_ne_zero.mpr h0
  have hlog : Nat.log2 m ≤ 23 := by
    have := (Nat.log2_lt hpos).mpr hz
    omega
  have hlow : 2 ^ 23 ≤ m * 2 ^ (23 - Nat.log2 m) := by
    calc 2 ^ 23 = 2 ^ Nat.log2 m * 2 ^ (23 - Nat.log2 m) := by rw [← pow_add]; congr 1; omega
      _ ≤ m * 2 ^ (23 - Nat.log2 m) := Nat.mul_le_mul_right _ (Nat.log2_self_le hpos)
  have hup : m * 2 ^ (23 - Nat.log2 m) < 2 ^ 24 := by
    calc m * 2 ^ (23 - Nat.log2 m) < 2 ^ (Nat.log2 m + 1) * 2 ^ (23 - Nat.log2 m) :=
          Nat.mul_lt_mul_of_pos_right Nat.lt_log2_self (by positivity)
      _ = 2 ^ 24 := by rw [← pow_add]; congr 1; omega
  have hpattern := f32Decode_pattern hup (k := 149 - j - (23 - Nat.log2 m)) (by omega) (.inr hlow) (decide (z < 0))
  refine ⟨_, hpattern.trans ?_⟩
  have hk : ((149 - j - (23 - Nat.log2 m) : Nat) : Int) - 149 = -((j + (23 - Nat.log2 m) : Nat) : Int) := by omega
  have hsign : (if decide (z < 0) = true then (-1 : NUM) else 1) * m = z := by
    have hcast : (m : NUM) = ((|z| : Int) : NUM) := by rw [hm, Nat.cast_natAbs]
    rw [hcast]
    split_ifs with hneg
    · rw [abs_of_neg (of_decide_eq_true hneg)]; push_cast; ring
    · rw [abs_of_nonneg (by simpa using hneg), one_mul]
  rw [hk, zpow_neg, zpow_natCast, Nat.cast_mul, ← hsign, pow_add]
  push_cast
  field_simp

/-! ## The bend (R33, R145) -/

/-- The bend in exact arithmetic. -/
theorem bendSemitones_eq {n : Numerics} (hn : n.carrier = .rational) (b : Nat) :
    bendSemitones n b = ((7 * (((min b 16383 : Nat) : Int) - 8192) : Int) : NUM) / 2 ^ 13 := by
  simp only [bendSemitones, Numerics.mul_of_rational hn, Numerics.div_of_rational hn, Config.bendMax,
    Config.bendCentre, Config.bendDiv, Config.bendRange]
  push_cast
  ring

/-- Settles O20, on the bend as a whole number of steps of 7/8192. -/
theorem bendRangeAndExtremes : Obligations.BendRangeAndExtremes := by
  intro n hn
  refine ⟨?_, ?_, fun b hb => ?_, fun a b hab => ?_, fun b => ?_⟩
  · norm_num [bendSemitones_eq hn]
  · norm_num [bendSemitones_eq hn]
  · rw [bendSemitones_eq hn, Nat.min_eq_right hb]
    norm_num
  · rw [bendSemitones_eq hn, bendSemitones_eq hn]
    refine div_le_div_of_nonneg_right ?_ (by norm_num)
    have hmin : ((min a 16383 : Nat) : Int) ≤ (min b 16383 : Nat) := by omega
    exact_mod_cast (by linarith : 7 * (((min a 16383 : Nat) : Int) - 8192) ≤ 7 * (((min b 16383 : Nat) : Int) - 8192))
  · obtain ⟨hlow, hup⟩ := Tests.bend_in_range hn b
    refine ⟨hlow, hup, ?_⟩
    rw [bendSemitones_eq hn]
    exact isBinary32_of_dyadic (by omega) (by norm_num)

/-! ## Parameters written (R350, R361 to R367) -/

theorem ok_param (s : State) : s.ok opParam = { s with rspPort := s.rspPort ++ [0x2000000000000000] } := by
  have hword : responseWord opParam statusOk 0 0 = 0x2000000000000000 := by decide
  rw [← hword]
  rfl

/-- A sub-command whose effect is a change of the shared smoothers. -/
theorem exec_sharedParam {k : Fin 26} {i : Word32 → Instr} {g : SharedSm → NUM → SharedSm} (hk : paramHi k = 1)
    (hi : ∀ v s, exec (i v) s = paramWith k (fun _ _ x e => e.mapSm fun m => g m x) v s) (v : Word32) (x : NUM)
    (s : State) (hs : s.instValid = true) (hx : numOperand v 0 1 = some x) :
    exec (i v) s = .next { s with
      eng := { s.eng with params := s.eng.params.set k x, sm := g s.eng.sm x }
      rspPort := s.rspPort ++ [0x2000000000000000] } := by
  rw [hi, paramWith_of_some hs (hk.symm ▸ hx), ok_param]
  rfl

/-- Settles O26: each of the seven commands has such an effect. -/
theorem sharedSmootherParamResult : Obligations.SharedSmootherParamResult := by
  have hone (k : Fin 26) (h3 : k.val ≠ 3) (h8 : k.val ≠ 8) : paramHi k = 1 := paramHi_of_ne h3 h8
  unfold Obligations.SharedSmootherParamResult
  simp only [List.forall_mem_cons]
  refine ⟨?_, ?_, ?_, ?_, ?_, ?_, ?_, fun p hp => absurd hp List.not_mem_nil⟩
  · exact exec_sharedParam (g := fun m x => { m with pitchMod := { m.pitchMod with t := x } })
      (hone 9 (by decide) (by decide)) fun _ _ => rfl
  · exact exec_sharedParam (g := fun m x => { m with cutoff := { m.cutoff with t := x } })
      (hone 10 (by decide) (by decide)) fun _ _ => rfl
  · exact exec_sharedParam (g := fun m x => { m with res := { m.res with t := x } })
      (hone 11 (by decide) (by decide)) fun _ _ => rfl
  · exact exec_sharedParam (g := fun m x => { m with envMod := { m.envMod with t := x } })
      (hone 12 (by decide) (by decide)) fun _ _ => rfl
  · exact exec_sharedParam (g := fun m x => { m with lfoMod := { m.lfoMod with t := x } })
      (hone 13 (by decide) (by decide)) fun _ _ => rfl
  · exact exec_sharedParam (g := fun m x => { m with kbdMod := { m.kbdMod with t := x } })
      (hone 14 (by decide) (by decide)) fun _ _ => rfl
  · exact exec_sharedParam (g := fun m x => { m with bendMod := { m.bendMod with t := x } })
      (hone 15 (by decide) (by decide)) fun _ _ => rfl

/-! ## Parameters read back (R351, R380) -/

/-- Encoding a binary32 value loses nothing. -/
theorem f32Decode_f32Encode {q : NUM} (h : IsBinary32 q) : f32Decode (f32Encode q) = .fin q := by
  obtain ⟨v, hv⟩ := h
  rw [binary32RoundTrip v q hv]
  split_ifs with hminus
  · have hzero : f32Decode 0x80000000 = .fin 0 := Tests.witness_Binary32RoundTrip.2
    obtain rfl : (0 : NUM) = q := F32.fin.inj (hzero.symm.trans (hminus ▸ hv))
    exact f32Decode_zero
  · exact hv

theorem numOperand_f32Encode {q hi : NUM} (h : InDomain hi q) : numOperand (f32Encode q) 0 hi = some q := by
  obtain ⟨h0, h1, hb⟩ := h
  rw [numOperand, f32Decode_f32Encode hb]
  exact congrArg some (clamp_of_mem h0 h1)

theorem setTarget_self {m : Smoother} {x : NUM} (h : m.t = x) : m.setTarget x = m := by
  rw [← h]
  rfl

theorem setParam_self (e : Engine) (k : Fin 26) : e.setParam k e.params[k] = e := by
  simp [Engine.setParam]

/-- A change that leaves every voice as it is leaves the engine as it is. -/
theorem mapVoices_self {e : Engine} {g : Voice → Voice} (h : ∀ j : Fin 6, g e.voices[j] = e.voices[j]) :
    e.mapVoices g = e := by
  have hv : e.voices.map g = e.voices := by
    ext j hj
    rw [Vector.getElem_map]
    exact h ⟨j, hj⟩
  rw [Engine.mapVoices, hv]

theorem mapOsc_self {e : Engine} {g : OscState → OscState} (h : ∀ j : Fin 6, g (e.voices[j]).osc = (e.voices[j]).osc) :
    e.mapOsc g = e :=
  mapVoices_self fun j => congrArg (fun o => { e.voices[j] with osc := o }) (h j)

theorem mapSm_self {e : Engine} {g : SharedSm → SharedSm} (h : g e.sm = e.sm) : e.mapSm g = e := by
  rw [Engine.mapSm, h]

/-- Where the targets agree with the registers, the effect of the value a register holds does nothing. -/
theorem paramEffect_self {s : State} (hs : s.instValid = true) (h : s.TargetsAgree) (k : Fin 26) :
    paramEffect k s.cfg s.eng.params[k] s.eng.params[k] s.eng = s.eng := by
  obtain ⟨hv, h9, h10, h11, h12, h13, h14, h15⟩ := h hs
  simp only [forall_and] at hv
  obtain ⟨hpwm, hsrc, hsaw, hpulse, hsub, hnoise⟩ := hv
  unfold paramEffect
  split
  case h_1 hk =>
    obtain rfl : k = 2 := Fin.ext hk
    exact mapVoices_self fun j => congrArg (fun m => { s.eng.voices[j] with pwmSm := m }) (setTarget_self (hpwm j))
  case h_2 hk =>
    obtain rfl : k = 3 := Fin.ext hk
    exact mapVoices_self fun j => congrArg (fun p => { s.eng.voices[j] with pwmSrc := p }) (hsrc j).symm
  case h_3 hk =>
    obtain rfl : k = 4 := Fin.ext hk
    exact mapOsc_self fun j => congrArg (fun m => { (s.eng.voices[j]).osc with saw := m }) (setTarget_self (hsaw j))
  case h_4 hk =>
    obtain rfl : k = 5 := Fin.ext hk
    exact mapOsc_self fun j => congrArg (fun m => { (s.eng.voices[j]).osc with pulse := m }) (setTarget_self (hpulse j))
  case h_5 hk =>
    obtain rfl : k = 6 := Fin.ext hk
    exact mapOsc_self fun j => congrArg (fun m => { (s.eng.voices[j]).osc with sub := m }) (setTarget_self (hsub j))
  case h_6 hk =>
    obtain rfl : k = 7 := Fin.ext hk
    exact mapOsc_self fun j => congrArg (fun m => { (s.eng.voices[j]).osc with noise := m }) (setTarget_self (hnoise j))
  case h_7 hk =>
    obtain rfl : k = 9 := Fin.ext hk
    exact mapSm_self (congrArg (fun m => { s.eng.sm with pitchMod := m }) (setTarget_self h9))
  case h_8 hk =>
    obtain rfl : k = 10 := Fin.ext hk
    exact mapSm_self (congrArg (fun m => { s.eng.sm with cutoff := m }) (setTarget_self h10))
  case h_9 hk =>
    obtain rfl : k = 11 := Fin.ext hk
    exact mapSm_self (congrArg (fun m => { s.eng.sm with res := m }) (setTarget_self h11))
  case h_10 hk =>
    obtain rfl : k = 12 := Fin.ext hk
    exact mapSm_self (congrArg (fun m => { s.eng.sm with envMod := m }) (setTarget_self h12))
  case h_11 hk =>
    obtain rfl : k = 13 := Fin.ext hk
    exact mapSm_self (congrArg (fun m => { s.eng.sm with lfoMod := m }) (setTarget_self h13))
  case h_12 hk =>
    obtain rfl : k = 14 := Fin.ext hk
    exact mapSm_self (congrArg (fun m => { s.eng.sm with kbdMod := m }) (setTarget_self h14))
  case h_13 hk =>
    obtain rfl : k = 15 := Fin.ext hk
    exact mapSm_self (congrArg (fun m => { s.eng.sm with bendMod := m }) (setTarget_self h15))
  case h_14 => exact if_pos rfl
  case h_15 => rfl

/-- Settles O31: the register is written with the value it holds, and so is every target. -/
theorem readBackIsLossless : Obligations.ReadBackIsLossless := by
  intro s k hs hdom hagree
  have hk : InDomain (paramHi k) s.eng.params[k] := hdom hs k
  obtain ⟨i, hi, hexec⟩ := paramInstr_exec k (f32Encode s.eng.params[k])
  refine ⟨f32Encode s.eng.params[k], ?_, f32Decode_f32Encode hk.2.2, i, hi, ?_⟩
  · rw [exec, execGetp, withInstance_of_valid hs, dif_pos k.isLt]
    rfl
  · rw [hexec, paramWith_of_some hs (numOperand_f32Encode hk), paramEngine, setParam_self,
      paramEffect_self hs hagree, ok_param]
    rfl

end Sys2Proof.Proofs

/-! SUPPORT. Which part of a block the draws reach (R52, R220 K4, R269 K4). -/

namespace Sys2Proof.Proofs

open Sys2Proof.Machine

/-! ## The LFO -/

/-- The waveforms that take no draw (R273). -/
def LfoDrawless (c : Config) : Prop := c.lfoWave = .triangle ∨ c.lfoWave = .sine ∨ c.lfoWave = .square

theorem lfoWaveform_drawless {c : Config} (h : LfoDrawless c) (p : Vector NUM 26) (d d' : NUM) (l : LfoState) :
    lfoWaveform c p d l = lfoWaveform c p d' l := by
  unfold lfoWaveform lfoHold lfoWaveAt lfoDrawSeen
  rcases h with h | h | h
  · simp only [h]
  · simp only [h]
  · simp only [h]

theorem lfoFrame_drawless {c : Config} (h : LfoDrawless c) (p : Vector NUM 26) (d d' : Draws) :
    lfoFrame c p d = lfoFrame c p d' := by
  funext l t
  simp only [lfoFrame, lfoAdvance, lfoWaveform_drawless h p (drawValue (d .lfo t)) (drawValue (d' .lfo t))]

theorem blockLfo_drawless {c : Config} (h : LfoDrawless c) (d d' : Draws) (t n : Nat) (e : Engine) :
    blockLfo c d t n e = blockLfo c d' t n e := by
  unfold blockLfo
  rw [lfoFrame_drawless h e.params d d']

theorem blockMods_drawless {c : Config} (h : LfoDrawless c) (d d' : Draws) (t n : Nat) (e : Engine) :
    blockMods c d t n e = blockMods c d' t n e := by
  unfold blockMods
  rw [blockLfo_drawless h d d']

/-! ## One voice -/

theorem advance_zero (c : Config) : Smoother.zero.advance c = .zero := by
  have h : onePole c.num 0 c.smoothCoef 0 = 0 := by
    simp [onePole, Numerics.add, Numerics.sub, Numerics.mul]
  simp only [Smoother.advance, Smoother.zero, h]

/-- An oscillator with another state of its noise. -/
def oscWithNoise (o : OscState) (a : List NUM) : OscState := { o with noiseAux := a }

/-- A voice with another state of its noise. -/
def withNoise (v : Voice) (a : List NUM) : Voice := { v with osc := oscWithNoise v.osc a }

/-- With the noise level at 0 neither the draw nor the state of the noise is heard (R220 K4). -/
theorem oscMix_oscWithNoise {c : Config} {o : OscState} (h : o.noise.y = 0) (a : List NUM) (pwm d d' : NUM) :
    oscMix c (oscWithNoise o a) pwm d' = oscMix c o pwm d := by
  have h0 (x : NUM) : c.num.mul 0 x = 0 := by simp [Numerics.mul]
  unfold oscMix oscWaves oscWithNoise
  cases c.oscKernel <;> simp only [h, h0]

/-- The draw and the state of the noise reach that state alone; the reference kernel leaves it as it is. -/
theorem oscAdvance_oscWithNoise (c : Config) (o : OscState) (a : List NUM) (f pwm d d' : NUM) :
    ∃ a', oscAdvance c (oscWithNoise o a) f pwm d' = oscWithNoise (oscAdvance c o f pwm d) a' ∧
      (c.oscKernel = .reference → a = o.noiseAux → a' = (oscAdvance c o f pwm d).noiseAux) := by
  unfold oscAdvance
  cases c.oscKernel with
  | reference => exact ⟨a, rfl, fun _ ha => ha⟩
  | program k => exact ⟨_, rfl, fun hk => nomatch hk⟩

theorem oscAdvance_noise_zero {c : Config} {o : OscState} (h : o.noise = .zero) (f pwm d : NUM) :
    (oscAdvance c o f pwm d).noise = .zero := by
  obtain ⟨-, -, -, hnoise⟩ := oscAdvance_levels c o f pwm d
  rw [hnoise, h, advance_zero]

theorem oscSample_oscWithNoise {c : Config} {o : OscState} (h : o.noise = .zero) (a : List NUM) (f pwm d d' : NUM) :
    ∃ a', oscSample c (oscWithNoise o a) f pwm d' =
        (oscWithNoise (oscSample c o f pwm d).1 a', (oscSample c o f pwm d).2) ∧
      (c.oscKernel = .reference → a = o.noiseAux → a' = (oscSample c o f pwm d).1.noiseAux) := by
  obtain ⟨a', hadv, ha'⟩ := oscAdvance_oscWithNoise c o a f pwm d d'
  have hsilent : (oscAdvance c o f pwm d).noise.y = 0 := by
    rw [oscAdvance_noise_zero h]
    rfl
  refine ⟨a', ?_, ha'⟩
  rw [oscSample, hadv, oscMix_oscWithNoise hsilent a' pwm d d', oscSample]

/-- The second voice is the first but for the state of the noise, which is not heard; under the reference
oscillator it is the first. -/
inductive SameButNoise (c : Config) (v : Voice) : Voice → Prop where
  | intro (hz : v.osc.noise = .zero) (a : List NUM) (ha : c.oscKernel = .reference → a = v.osc.noiseAux) :
      SameButNoise c v (withNoise v a)

theorem SameButNoise.refl {c : Config} {v : Voice} (hz : v.osc.noise = .zero) : SameButNoise c v v :=
  .intro hz v.osc.noiseAux fun _ => rfl

theorem SameButNoise.eq {c : Config} {v w : Voice} (h : SameButNoise c v w) (hk : c.oscKernel = .reference) :
    v = w := by
  obtain ⟨-, a, ha⟩ := h
  rw [ha hk]
  rfl

theorem SameButNoise.active {c : Config} {v w : Voice} (h : SameButNoise c v w) : w.active = v.active := by
  obtain ⟨-, a, -⟩ := h
  rfl

theorem SameButNoise.withNoise_nil {c : Config} {v w : Voice} (h : SameButNoise c v w) :
    withNoise v [] = withNoise w [] := by
  obtain ⟨-, a, -⟩ := h
  rfl

/-- The PWM-mod value of a voice in a frame (R223, R329). -/
def voicePwm (c : Config) (p : Vector NUM 26) (v : Voice) (m : ModFrame) : NUM :=
  c.num.mul (v.pwmSm.advance c).y (pwmSource c v.pwmSrc m.lfo (advanceEnvelopes c p v).envA.level
    (currentEnv (advanceEnvelopes c p v)).level)

/-- What a frame makes of a voice and of the sample of its oscillator (R329, R331). -/
def voiceBehindOsc (c : Config) (p : Vector NUM 26) (bendSemi : NUM) (v : Voice) (m : ModFrame) (osc : OscState × NUM) :
    Voice × NUM :=
  let v1 := advanceEnvelopes c p v
  let ampVal := (currentEnv v1).level
  let oct := cutoffOct c.num m.baseOct m.envD v1.envA.level m.lfoD m.lfo ampVal m.kbdD (noteNumber v) m.bendD bendSemi
  let vcf := vcfSample c v.vcf osc.2 (cutoffHz c.num oct) m.res
  ({ v1 with pwmSm := v.pwmSm.advance c, osc := osc.1, vcf := vcf.1 },
    c.num.div (c.num.prod [vcf.2, ampVal, v.vel, v.vel]) Config.mixDiv)

/-- A frame of a voice reads its oscillator through one sample of it. -/
theorem voiceFrame_withNoise (c : Config) (p : Vector NUM 26) (b : NUM) (d : Nat → NUM) (v : Voice) (a : List NUM)
    (m : ModFrame) :
    voiceFrame c p b d (withNoise v a) m = voiceBehindOsc c p b v m
      (oscSample c (oscWithNoise v.osc a) (oscFreq c.num p v.freq m.detune) (voicePwm c p v m)
        (drawValue (d m.frame))) := rfl

theorem voiceFrame_eq (c : Config) (p : Vector NUM 26) (b : NUM) (d : Nat → NUM) (v : Voice) (m : ModFrame) :
    voiceFrame c p b d v m = voiceBehindOsc c p b v m
      (oscSample c v.osc (oscFreq c.num p v.freq m.detune) (voicePwm c p v m) (drawValue (d m.frame))) := rfl

theorem voiceFrame_sameButNoise {c : Config} {v w : Voice} (h : SameButNoise c v w) (p : Vector NUM 26) (b : NUM)
    (d d' : Nat → NUM) (m : ModFrame) :
    SameButNoise c (voiceFrame c p b d v m).1 (voiceFrame c p b d' w m).1 ∧
      (voiceFrame c p b d v m).2 = (voiceFrame c p b d' w m).2 := by
  obtain ⟨hz, a, ha⟩ := h
  obtain ⟨a', hosc, ha'⟩ := oscSample_oscWithNoise (c := c) hz a (oscFreq c.num p v.freq m.detune) (voicePwm c p v m)
    (drawValue (d m.frame)) (drawValue (d' m.frame))
  rw [voiceFrame_withNoise, voiceFrame_eq, hosc]
  exact ⟨.intro (oscAdvance_noise_zero hz _ _ _) a' fun hk => ha' hk (ha hk), rfl⟩

theorem deactivationCheck_sameButNoise {c : Config} {v w : Voice} (h : SameButNoise c v w) :
    SameButNoise c (deactivationCheck c v) (deactivationCheck c w) := by
  obtain ⟨hz, a, ha⟩ := h
  have hcur : envActive (currentEnv (withNoise v a)) = envActive (currentEnv v) := rfl
  unfold deactivationCheck
  rw [hcur]
  split
  · exact .intro hz a ha
  · exact .refl (by simp only [voiceDeactivate, oscReset, oscSnap, Smoother.snap, hz]; rfl)

/-! ## A block -/

/-- Two units that keep a relation and agree on their outputs do so over a block. -/
theorem scanBlock_rel {σ α β : Type} {f g : σ → α → σ × β} {R : σ → σ → Prop}
    (step : ∀ s s' a, R s s' → R (f s a).1 (g s' a).1 ∧ (f s a).2 = (g s' a).2) {s s' : σ} (h : R s s') (as : List α) :
    R (scanBlock f s as).1 (scanBlock g s' as).1 ∧ (scanBlock f s as).2 = (scanBlock g s' as).2 := by
  induction as generalizing s s' with
  | nil => exact ⟨h, rfl⟩
  | cons a as ih =>
    obtain ⟨hR, hout⟩ := step s s' a h
    obtain ⟨ihR, ihout⟩ := ih hR
    exact ⟨ihR, by rw [scanBlock_cons, scanBlock_cons, hout, ihout]⟩

theorem forall_getElem_set₂ {α : Type} {n : Nat} {R : α → α → Prop} {xs ys : Vector α n} {k : Fin n} {x y : α}
    (h : ∀ j : Fin n, R xs[j] ys[j]) (hxy : R x y) (j : Fin n) : R (xs.set k x)[j] (ys.set k y)[j] := by
  by_cases hj : k = j
  · subst hj; simpa using hxy
  · have hne : (k : Nat) ≠ j := fun he => hj (Fin.ext he)
    simpa [Vector.getElem_set_ne, hne] using h j

/-- Two pools that differ in nothing heard, with the same mix so far. -/
structure SameMix (c : Config) (acc acc' : Vector Voice 6 × List NUM) : Prop where
  voices : ∀ j : Fin 6, SameButNoise c acc.1[j] acc'.1[j]
  mix : acc.2 = acc'.2

theorem renderSlot_sameMix {c : Config} {p : Vector NUM 26} {b : NUM} {mods : List ModFrame} (d d' : Draws)
    {acc acc' : Vector Voice 6 × List NUM} (h : SameMix c acc acc') (k : Fin 6) :
    SameMix c (renderSlot c p b d mods acc k) (renderSlot c p b d' mods acc' k) := by
  have hactive : (acc'.1[k]).active = (acc.1[k]).active := (h.voices k).active
  obtain ⟨hv, hout⟩ := scanBlock_rel (R := SameButNoise c)
    (fun v w m hv => voiceFrame_sameButNoise hv p b (d (.voice k)) (d' (.voice k)) m) (h.voices k) mods
  unfold renderSlot
  rw [hactive]
  split
  · exact ⟨forall_getElem_set₂ h.voices (deactivationCheck_sameButNoise hv), congrArg₂ (List.zipWith _) h.mix hout⟩
  · exact h

theorem blockVoices_sameMix {c : Config} (hw : LfoDrawless c) (d d' : Draws) (t n : Nat) {e : Engine}
    (hz : ∀ j : Fin 6, (e.voices[j]).osc.noise = .zero) :
    SameMix c (blockVoices c d t n e) (blockVoices c d' t n e) := by
  unfold blockVoices
  rw [blockMods_drawless hw d d']
  exact List.foldl_rel (r := SameMix c) ⟨fun j => .refl (hz j), rfl⟩ fun k _ acc acc' h => renderSlot_sameMix d d' h k

theorem withoutNoiseState_eq (e : Engine) :
    e.withoutNoiseState = { e with voices := e.voices.map fun v => withNoise v [] } := rfl

/-- A block under two sources of draws: the same output, and the same engine but for the state of the noise;
under the reference oscillator the same engine. -/
theorem renderBlock_draws {c : Config} (hw : LfoDrawless c) (d d' : Draws) (t n : Nat) {e : Engine}
    (hz : ∀ j : Fin 6, (e.voices[j]).osc.noise = .zero) :
    (renderBlock c d t n e).out = (renderBlock c d' t n e).out ∧
      (renderBlock c d t n e).eng.withoutNoiseState = (renderBlock c d' t n e).eng.withoutNoiseState ∧
      (c.oscKernel = .reference → (renderBlock c d t n e).eng = (renderBlock c d' t n e).eng) := by
  obtain ⟨hv, hmix⟩ := blockVoices_sameMix hw d d' t n hz
  have hfx : blockEffects c d t n e = blockEffects c d' t n e := by
    unfold blockEffects
    rw [hmix]
  have hmap : (blockVoices c d t n e).1.map (fun v => withNoise v []) =
      (blockVoices c d' t n e).1.map fun v => withNoise v [] := by
    ext1 j hj
    rw [Vector.getElem_map, Vector.getElem_map]
    exact (hv ⟨j, hj⟩).withNoise_nil
  rw [renderBlock_eq, renderBlock_eq, blockLfo_drawless hw d d', blockMods_drawless hw d d', hfx]
  refine ⟨rfl, ?_, fun hk => ?_⟩
  · rw [withoutNoiseState_eq, withoutNoiseState_eq, hmap]
  · have hvoices : (blockVoices c d t n e).1 = (blockVoices c d' t n e).1 := by
      ext1 j hj
      exact (hv ⟨j, hj⟩).eq hk
    rw [hvoices]

/-- A `RENDER` is the block rendered. -/
theorem renderWith_congr {d d' : Draws} {b : Nat} {s : State} {f : Engine → Engine}
    (heng : f (renderBlock s.cfg d s.frameNo (frameCount b) s.eng).eng =
      f (renderBlock s.cfg d' s.frameNo (frameCount b) s.eng).eng)
    (hout : (renderBlock s.cfg d s.frameNo (frameCount b) s.eng).out =
      (renderBlock s.cfg d' s.frameNo (frameCount b) s.eng).out) :
    { renderWith d b s with eng := f (renderWith d b s).eng } =
      { renderWith d' b s with eng := f (renderWith d' b s).eng } := by
  cases hs : s.instValid with
  | true => simp only [renderWith, hs, if_true, renderFrames, State.respond, State.emit, State.setEng, heng, hout]
  | false => simp only [renderWith, hs, Bool.false_eq_true, if_false]

/-- Settles O40: two blocks are run side by side, their voices the same but for the state of the noise. -/
theorem drawsReachOnlyNoise : Obligations.DrawsReachOnlyNoise := by
  intro d d' b s hw hz t t'
  obtain ⟨hout, hnoise, heng⟩ := renderBlock_draws hw d d' s.frameNo (frameCount b) hz
  exact ⟨renderWith_congr hnoise hout, fun hk => renderWith_congr (f := id) (heng hk) hout⟩

end Sys2Proof.Proofs

/-! SUPPORT. Words as bytes (R62, R64, R94). -/

namespace Sys2Proof.Proofs

open Sys2Proof.Machine

/-! ## Little-endian bytes (R62) -/

@[simp] theorem littleEndian_length (n w : Nat) : (littleEndian n w).length = n := by
  induction n generalizing w with
  | zero => rfl
  | succ n ih => rw [littleEndian, List.length_cons, ih]

/-- The number read back from `n` bytes is the low `n` bytes of the number written. -/
theorem fromLittleEndian_littleEndian (n w : Nat) : fromLittleEndian (littleEndian n w) = w % 2 ^ (8 * n) := by
  induction n generalizing w with
  | zero => rw [littleEndian, fromLittleEndian, Nat.mul_zero, Nat.pow_zero, Nat.mod_one]
  | succ n ih =>
    rw [littleEndian, fromLittleEndian, ih, BitVec.toNat_ofNat, Nat.mul_succ, Nat.add_comm (8 * n), Nat.pow_add,
      Nat.mod_mul]

/-- Byte `k` of a word holds its bits `8 k + 7` to `8 k`. -/
theorem littleEndian_toNat {m : Nat} (w : BitVec m) (n start : Nat) :
    littleEndian n (w.toNat >>> start) = (List.range n).map fun k => w.extractLsb' (start + 8 * k) 8 := by
  induction n generalizing start with
  | zero => rfl
  | succ n ih =>
    rw [littleEndian, ← Nat.shiftRight_eq_div_pow, ← Nat.shiftRight_add, ih, List.range_succ_eq_map, List.map_cons,
      List.map_map]
    simp only [Function.comp_def, Nat.mul_succ, Nat.add_assoc, Nat.add_comm 8]
    rfl

theorem wordBytes_eq (w : Word64) :
    wordBytes w = [0, 8, 16, 24, 32, 40, 48, 56].map fun k => w.extractLsb' k 8 := littleEndian_toNat w 8 0

theorem frameBytes_eq (f : Word32) : frameBytes f = [0, 8, 16, 24].map fun k => f.extractLsb' k 8 :=
  littleEndian_toNat f 4 0

/-- The eight bytes of a word are read back as the word, whatever follows them (R64). -/
theorem decodeBytes_wordBytes_append (w : Word64) (rest : List Byte) :
    decodeBytes (wordBytes w ++ rest) = some (decode w, rest) := by
  have hlen : (wordBytes w).length = 8 := littleEndian_length 8 w.toNat
  have hword : BitVec.ofNat 64 (fromLittleEndian (wordBytes w)) = w := by
    rw [wordBytes, fromLittleEndian_littleEndian, Nat.mod_eq_of_lt w.isLt, BitVec.ofNat_toNat, BitVec.setWidth_eq]
  rw [decodeBytes, if_neg (by rw [List.length_append]; omega), List.take_left' hlen, List.drop_left' hlen, hword]

/-! ## PCM frames (R94) -/

/-- Bits of a frame below 16 are the left sample's. -/
theorem frameWord_left (l r : Int) {start len : Nat} (h : start + len ≤ 16) :
    (frameWord l r).extractLsb' start len = (BitVec.ofInt 16 l).extractLsb' start len :=
  BitVec.extractLsb'_append_eq_of_add_le h

/-- Bits of a frame from 16 on are the right sample's. -/
theorem frameWord_right (l r : Int) (start len : Nat) :
    (frameWord l r).extractLsb' (16 + start) len = (BitVec.ofInt 16 r).extractLsb' start len := by
  rw [frameWord, BitVec.extractLsb'_append_eq_of_le (Nat.le_add_right _ _), Nat.add_sub_cancel_left]

/-- The bytes of a frame, `L.lo, L.hi, R.lo, R.hi`. -/
theorem frameBytes_frameWord (l r : Int) :
    frameBytes (frameWord l r) =
      [(BitVec.ofInt 16 l).extractLsb' 0 8, (BitVec.ofInt 16 l).extractLsb' 8 8,
        (BitVec.ofInt 16 r).extractLsb' 0 8, (BitVec.ofInt 16 r).extractLsb' 8 8] := by
  rw [frameBytes_eq, ← frameWord_left l r (by decide), ← frameWord_left l r (by decide), ← frameWord_right l r,
    ← frameWord_right l r]
  rfl

/-- A number of 16 bits in two's complement is read back from its word. -/
theorem toInt_ofInt_sample {x : Int} (hlo : -32768 ≤ x) (hhi : x ≤ 32767) : (BitVec.ofInt 16 x).toInt = x :=
  BitVec.toInt_ofInt_eq_self (by decide) hlo (by omega)

theorem frameWord_toInt {l r : Int} (hl : -32768 ≤ l) (hl' : l ≤ 32767) (hr : -32768 ≤ r) (hr' : r ≤ 32767) :
    ((frameWord l r).extractLsb' 0 16).toInt = l ∧ ((frameWord l r).extractLsb' 16 16).toInt = r := by
  rw [frameWord_left l r (by decide), frameWord_right l r 0, BitVec.extractLsb'_eq_self, BitVec.extractLsb'_eq_self]
  exact ⟨toInt_ofInt_sample hl hl', toInt_ofInt_sample hr hr'⟩

/-- Settles O6: byte `k` of a word is its bits from `8 k` on, and the bits of a frame are those of its samples. -/
theorem serialisedWords : Obligations.SerialisedWords :=
  ⟨decodeBytes_wordBytes_append, wordBytes_eq, frameBytes_frameWord, fun _ _ => frameWord_toInt⟩

end Sys2Proof.Proofs

/-! SUPPORT. A block run unit by unit is the block run frame by frame over all units (R67, R322). -/

namespace Sys2Proof.Proofs

open Sys2Proof.Machine

/-! ## One pass over the slots

A slot is visited once, so what a pass does to it is what it does to the voice the pool held before. -/

theorem slots_nodup : slots.Nodup := by decide

theorem pool_ext {vs ws : Vector Voice 6} (h : ∀ k : Fin 6, vs[k] = ws[k]) : vs = ws :=
  Vector.ext fun j hj => h ⟨j, hj⟩

/-- One slot of a pass: an active voice is run by `run` and its yield added to the mix by `add`. `renderSlot` and
`slotFrame` are of this form. -/
def slotStep {μ β : Type} (run : Fin 6 → Voice → Voice × β) (add : μ → β → μ) (acc : Vector Voice 6 × μ) (k : Fin 6) :
    Vector Voice 6 × μ :=
  if acc.1[k].active then (acc.1.set k (run k acc.1[k]).1, add acc.2 (run k acc.1[k]).2) else acc

/-- One slot's share of the mix, read from a pool that stays as it is. -/
def slotMix {μ β : Type} (run : Fin 6 → Voice → Voice × β) (add : μ → β → μ) (vs : Vector Voice 6) (mix : μ)
    (k : Fin 6) : μ :=
  if vs[k].active then add mix (run k vs[k]).2 else mix

/-- A pool with every active voice run. -/
def runActive {β : Type} (run : Fin 6 → Voice → Voice × β) (vs : Vector Voice 6) : Vector Voice 6 :=
  Vector.ofFn fun k => if vs[k].active then (run k vs[k]).1 else vs[k]

section Pass

variable {μ β : Type} (run : Fin 6 → Voice → Voice × β) (add : μ → β → μ)

theorem runActive_getElem (vs : Vector Voice 6) (k : Fin 6) :
    (runActive run vs)[k] = if vs[k].active then (run k vs[k]).1 else vs[k] := by
  simp [runActive]

theorem slotStep_snd (acc : Vector Voice 6 × μ) (k : Fin 6) :
    (slotStep run add acc k).2 = slotMix run add acc.1 acc.2 k := by
  unfold slotStep slotMix
  split_ifs <;> rfl

theorem slotStep_voice_self (acc : Vector Voice 6 × μ) (k : Fin 6) :
    (slotStep run add acc k).1[k] = if acc.1[k].active then (run k acc.1[k]).1 else acc.1[k] := by
  unfold slotStep
  split_ifs <;> simp

theorem slotStep_voice_ne (acc : Vector Voice 6 × μ) {j k : Fin 6} (h : j ≠ k) :
    (slotStep run add acc k).1[j] = acc.1[j] := by
  have hne : (k : Nat) ≠ j := fun he => h (Fin.ext he.symm)
  unfold slotStep
  split_ifs
  · simp [Vector.getElem_set_ne, hne]
  · rfl

/-- A pass leaves the slots it does not visit. -/
theorem foldl_slotStep_voice_of_notMem {ks : List (Fin 6)} {j : Fin 6} (hj : j ∉ ks) (acc : Vector Voice 6 × μ) :
    (ks.foldl (slotStep run add) acc).1[j] = acc.1[j] := by
  induction ks generalizing acc with
  | nil => rfl
  | cons k ks ih =>
    obtain ⟨hjk, hjks⟩ := not_or.mp (mt List.mem_cons.mpr hj)
    rw [List.foldl_cons, ih hjks, slotStep_voice_ne run add acc hjk]

/-- A pass runs the voice of every slot it visits as the pool held it before. -/
theorem foldl_slotStep_voice_of_mem {ks : List (Fin 6)} (hks : ks.Nodup) {j : Fin 6} (hj : j ∈ ks)
    (acc : Vector Voice 6 × μ) :
    (ks.foldl (slotStep run add) acc).1[j] = if acc.1[j].active then (run j acc.1[j]).1 else acc.1[j] := by
  induction ks generalizing acc with
  | nil => cases hj
  | cons k ks ih =>
    obtain ⟨hk, hks⟩ := List.nodup_cons.mp hks
    rw [List.foldl_cons]
    rcases List.mem_cons.mp hj with rfl | hj
    · rw [foldl_slotStep_voice_of_notMem run add hk, slotStep_voice_self]
    · have hjk : j ≠ k := fun he => hk (he ▸ hj)
      rw [ih hks hj, slotStep_voice_ne run add acc hjk]

theorem slotMix_congr {vs ws : Vector Voice 6} {k : Fin 6} (h : vs[k] = ws[k]) (mix : μ) :
    slotMix run add vs mix k = slotMix run add ws mix k := by
  unfold slotMix
  rw [h]

/-- The mix of a pass is that of the voices as the pool held them before. -/
theorem foldl_slotStep_mix {ks : List (Fin 6)} (hks : ks.Nodup) (acc : Vector Voice 6 × μ) :
    (ks.foldl (slotStep run add) acc).2 = ks.foldl (slotMix run add acc.1) acc.2 := by
  induction ks generalizing acc with
  | nil => rfl
  | cons k ks ih =>
    obtain ⟨hk, hks⟩ := List.nodup_cons.mp hks
    rw [List.foldl_cons, ih hks, List.foldl_cons, slotStep_snd]
    refine List.foldl_ext _ _ _ fun mix j hj => slotMix_congr run add ?_ mix
    exact slotStep_voice_ne run add acc fun he => hk (he ▸ hj)

/-- A pass over the six slots. -/
theorem foldl_slotStep_slots (acc : Vector Voice 6 × μ) :
    slots.foldl (slotStep run add) acc = (runActive run acc.1, slots.foldl (slotMix run add acc.1) acc.2) := by
  refine Prod.ext (pool_ext fun k => ?_) (foldl_slotStep_mix run add slots_nodup acc)
  rw [foldl_slotStep_voice_of_mem run add slots_nodup (mem_slots k), runActive_getElem]

end Pass

/-! ## The voices over a block (R327, R331) -/

section Voices

variable (c : Config) (p : Vector NUM 26) (b : NUM) (draws : Draws)

/-- The voice of a slot over a block. -/
def voiceBlock (mods : List ModFrame) (k : Fin 6) (v : Voice) : Voice × List NUM :=
  scanBlock (voiceFrame c p b (draws (.voice k))) v mods

/-- The voice of a slot in one frame. -/
def voiceSample (m : ModFrame) (k : Fin 6) (v : Voice) : Voice × NUM := voiceFrame c p b (draws (.voice k)) v m

/-- The voice of a slot over a block and checked at its end. -/
def voiceBlockChecked (mods : List ModFrame) (k : Fin 6) (v : Voice) : Voice × List NUM :=
  (deactivationCheck c (voiceBlock c p b draws mods k v).1, (voiceBlock c p b draws mods k v).2)

theorem renderSlot_eq_slotStep (mods : List ModFrame) :
    renderSlot c p b draws mods = slotStep (voiceBlockChecked c p b draws mods) (List.zipWith c.num.add) := rfl

theorem slotFrame_eq_slotStep (m : ModFrame) :
    slotFrame c p b draws m = slotStep (voiceSample c p b draws m) c.num.add := rfl

theorem voiceBlock_cons (m : ModFrame) (mods : List ModFrame) (k : Fin 6) (v : Voice) :
    voiceBlock c p b draws (m :: mods) k v =
      ((voiceBlock c p b draws mods k (voiceSample c p b draws m k v).1).1,
        (voiceSample c p b draws m k v).2 :: (voiceBlock c p b draws mods k (voiceSample c p b draws m k v).1).2) := rfl

theorem voiceBlock_active (mods : List ModFrame) (k : Fin 6) (v : Voice) :
    (voiceBlock c p b draws mods k v).1.active = v.active :=
  scanBlock_induct _ (P := fun w => w.active = v.active) (fun w m hw => (voiceFrame_active c p b _ w m).trans hw) v
    mods rfl

theorem runActive_voiceSample_active (m : ModFrame) (vs : Vector Voice 6) (k : Fin 6) :
    ((runActive (voiceSample c p b draws m) vs)[k]).active = (vs[k]).active := by
  rw [runActive_getElem]
  split
  · exact voiceFrame_active c p b _ _ m
  · rfl

/-- The voices over no frame. -/
theorem runActive_voiceBlock_nil (vs : Vector Voice 6) : runActive (voiceBlock c p b draws []) vs = vs :=
  pool_ext fun k => (runActive_getElem _ vs k).trans (ite_self _)

/-- The voices over a first frame and over the rest of the block. -/
theorem runActive_voiceBlock_cons (m : ModFrame) (mods : List ModFrame) (vs : Vector Voice 6) :
    runActive (voiceBlock c p b draws (m :: mods)) vs =
      runActive (voiceBlock c p b draws mods) (runActive (voiceSample c p b draws m) vs) := by
  refine pool_ext fun k => ?_
  rw [runActive_getElem, runActive_getElem _ (runActive _ vs), runActive_voiceSample_active, runActive_getElem]
  split
  · rw [voiceBlock_cons]
  · rfl

/-- The mix over a first frame and over the rest of the block. -/
theorem slotMix_voiceBlock_cons (m : ModFrame) (mods : List ModFrame) (vs : Vector Voice 6) (x : NUM) (xs : List NUM)
    (ks : List (Fin 6)) :
    ks.foldl (slotMix (voiceBlock c p b draws (m :: mods)) (List.zipWith c.num.add) vs) (x :: xs) =
      ks.foldl (slotMix (voiceSample c p b draws m) c.num.add vs) x ::
        ks.foldl (slotMix (voiceBlock c p b draws mods) (List.zipWith c.num.add)
          (runActive (voiceSample c p b draws m) vs)) xs := by
  induction ks generalizing x xs with
  | nil => rfl
  | cons k ks ih =>
    rw [List.foldl_cons, List.foldl_cons, List.foldl_cons, ← ih]
    congr 1
    unfold slotMix
    rw [runActive_voiceSample_active]
    split_ifs with ha
    · rw [voiceBlock_cons, List.zipWith_cons_cons, runActive_getElem, if_pos ha]
    · rfl

/-- The deactivation check of a voice if it is active (R332). -/
def checkActive (c : Config) (v : Voice) : Voice := if v.active then deactivationCheck c v else v

theorem endOfBlock_eq (e : Engine) : endOfBlock c e = { e with voices := e.voices.map (checkActive c) } := rfl

/-- Checking every active voice as its slot is rendered, or all of them after the block. -/
theorem runActive_voiceBlockChecked (mods : List ModFrame) (vs : Vector Voice 6) :
    runActive (voiceBlockChecked c p b draws mods) vs =
      (runActive (voiceBlock c p b draws mods) vs).map (checkActive c) := by
  refine pool_ext fun k => ?_
  have hmap : ((runActive (voiceBlock c p b draws mods) vs).map (checkActive c))[k] =
      checkActive c (runActive (voiceBlock c p b draws mods) vs)[k] := Vector.getElem_map _ _
  rw [hmap, runActive_getElem, runActive_getElem, checkActive]
  by_cases ha : vs[k].active
  · rw [if_pos ha, if_pos ha, if_pos ((voiceBlock_active c p b draws mods k _).trans ha)]
    rfl
  · rw [if_neg ha, if_neg ha, if_neg ha]

end Voices

/-! ## The block (R67, R322) -/

/-- The units of an engine run one after another over the frames `ts`, without the deactivation checks. -/
def unitwiseBlock (c : Config) (draws : Draws) (ts : List Nat) (e : Engine) : Engine × List (NUM × NUM) :=
  let lfo := scanBlock (lfoFrame c e.params draws) e.lfo ts
  let mods := scanBlock (sharedMod c) e.sm lfo.2
  let voices := runActive (voiceBlock c e.params e.bendSemi draws mods.2) e.voices
  let mix := slots.foldl (slotMix (voiceBlock c e.params e.bendSemi draws mods.2) (List.zipWith c.num.add) e.voices)
    (List.replicate ts.length 0)
  let fx := scanBlock (effectsFrame c e.params) (e.hp, e.chorus) mix
  ({ e with lfo := lfo.1, sm := mods.1, voices := voices, hp := fx.1.1, chorus := fx.1.2 }, fx.2)

/-- The renderer is the units one after another, and the deactivation checks. -/
theorem renderBlock_eq_unitwiseBlock (c : Config) (draws : Draws) (t n : Nat) (e : Engine) :
    renderBlock c draws t n e =
      { eng := endOfBlock c (unitwiseBlock c draws (List.range' t n) e).1
        out := (unitwiseBlock c draws (List.range' t n) e).2 } := by
  simp only [renderBlock, unitwiseBlock, endOfBlock_eq, renderSlot_eq_slotStep, foldl_slotStep_slots,
    runActive_voiceBlockChecked, List.length_range']
  rfl

/-- One frame over all units, its pass over the slots carried out. -/
theorem engineFrame_eq (c : Config) (draws : Draws) (e : Engine) (t : Nat) :
    engineFrame c draws e t =
      let l := lfoFrame c e.params draws e.lfo t
      let m := sharedMod c e.sm l.2
      let mix := slots.foldl (slotMix (voiceSample c e.params e.bendSemi draws m.2) c.num.add e.voices) 0
      let fx := effectsFrame c e.params (e.hp, e.chorus) mix
      ({ e with
          lfo := l.1, sm := m.1, voices := runActive (voiceSample c e.params e.bendSemi draws m.2) e.voices
          hp := fx.1.1, chorus := fx.1.2 }, fx.2) := by
  simp only [engineFrame, slotFrame_eq_slotStep, foldl_slotStep_slots]

theorem unitwiseBlock_nil (c : Config) (draws : Draws) (e : Engine) : unitwiseBlock c draws [] e = (e, []) := by
  have hmix (ks : List (Fin 6)) :
      ks.foldl (slotMix (voiceBlock c e.params e.bendSemi draws []) (List.zipWith c.num.add) e.voices) [] = [] := by
    induction ks with
    | nil => rfl
    | cons k ks ih => rw [List.foldl_cons, slotMix, List.zipWith_nil_left, ite_self, ih]
  simp only [unitwiseBlock, scanBlock_nil, runActive_voiceBlock_nil, List.length_nil, List.replicate_zero, hmix]

/-- The units over a first frame and the rest are all units over the first frame, then the units over the rest. -/
theorem unitwiseBlock_cons (c : Config) (draws : Draws) (t : Nat) (ts : List Nat) (e : Engine) :
    unitwiseBlock c draws (t :: ts) e =
      ((unitwiseBlock c draws ts (engineFrame c draws e t).1).1,
        (engineFrame c draws e t).2 :: (unitwiseBlock c draws ts (engineFrame c draws e t).1).2) := by
  simp only [unitwiseBlock, engineFrame_eq, scanBlock_cons, runActive_voiceBlock_cons, List.length_cons,
    List.replicate_succ, slotMix_voiceBlock_cons]

/-- The units one after another are all units frame by frame. -/
theorem scanBlock_engineFrame (c : Config) (draws : Draws) (ts : List Nat) (e : Engine) :
    scanBlock (engineFrame c draws) e ts = unitwiseBlock c draws ts e := by
  induction ts generalizing e with
  | nil => rw [scanBlock_nil, unitwiseBlock_nil]
  | cons t ts ih => rw [scanBlock_cons, ih, unitwiseBlock_cons]

/-- The two orders of a block agree (R67). -/
theorem renderBlock_eq_renderByFrame (c : Config) (draws : Draws) (t n : Nat) (e : Engine) :
    renderBlock c draws t n e = renderByFrame c draws t n e := by
  simp only [renderBlock_eq_unitwiseBlock, renderByFrame, scanBlock_engineFrame]

/-- `RENDER` with INST_VALID 1 (R321, R322). -/
theorem exec_render_of_valid {s : State} (hs : s.instValid = true) (b : Nat) :
    exec (.render b) s =
      .next ((renderFrames Config.rand (frameCount b) s).respond opRender statusOk (frameCount b) 0) := by
  rw [exec, execRender, renderWith, if_pos hs]

/-- Settles O33: the block the command renders unit by unit is the one rendered frame by frame. -/
theorem renderIsFrameByFrame : Obligations.RenderIsFrameByFrame := by
  intro b s hs r
  have hblock : renderBlock s.cfg Config.rand s.frameNo (min b 256) s.eng = r :=
    renderBlock_eq_renderByFrame s.cfg Config.rand s.frameNo (min b 256) s.eng
  have hcount : frameCount b = min b 256 := rfl
  simp only [exec_render_of_valid hs, hcount, renderFrames, hblock]
  rfl

end Sys2Proof.Proofs

/-! SUPPORT. The decoder and the encoder (R81 to R89): a command word field by field, and when it decodes to a command. -/

namespace Sys2Proof.Proofs

open Sys2Proof.Machine

/-! ## Fields (R81) -/

@[simp] theorem fieldOp_packCommand (op a : Word8) (b : Word16) (v : Word32) : fieldOp (packCommand op a b v) = op := by
  rw [fieldOp, packCommand, BitVec.extractLsb'_append_eq_of_le (by decide),
    BitVec.extractLsb'_append_eq_of_le (by decide), BitVec.extractLsb'_append_eq_of_le (by decide)]
  exact BitVec.extractLsb'_eq_self

@[simp] theorem fieldA_packCommand (op a : Word8) (b : Word16) (v : Word32) : fieldA (packCommand op a b v) = a := by
  rw [fieldA, packCommand, BitVec.extractLsb'_append_eq_of_le (by decide),
    BitVec.extractLsb'_append_eq_of_le (by decide), BitVec.extractLsb'_append_eq_of_add_le (by decide)]
  exact BitVec.extractLsb'_eq_self

@[simp] theorem fieldB_packCommand (op a : Word8) (b : Word16) (v : Word32) : fieldB (packCommand op a b v) = b := by
  rw [fieldB, packCommand, BitVec.extractLsb'_append_eq_of_le (by decide),
    BitVec.extractLsb'_append_eq_of_add_le (by decide)]
  exact BitVec.extractLsb'_eq_self

@[simp] theorem fieldV_packCommand (op a : Word8) (b : Word16) (v : Word32) : fieldV (packCommand op a b v) = v := by
  rw [fieldV, packCommand, BitVec.extractLsb'_append_eq_of_add_le (by decide)]
  exact BitVec.extractLsb'_eq_self

/-- A word is its four fields. -/
theorem packCommand_fields (w : Word64) : packCommand (fieldOp w) (fieldA w) (fieldB w) (fieldV w) = w := by
  have hopA : fieldOp w ++ fieldA w = w.extractLsb' 48 16 := BitVec.extractLsb'_append_extractLsb'_eq_extractLsb' rfl
  have hopB : w.extractLsb' 48 16 ++ fieldB w = w.extractLsb' 32 32 :=
    BitVec.extractLsb'_append_extractLsb'_eq_extractLsb' rfl
  have hopV : w.extractLsb' 32 32 ++ fieldV w = w.extractLsb' 0 64 :=
    BitVec.extractLsb'_append_extractLsb'_eq_extractLsb' rfl
  rw [packCommand, hopA, hopB, hopV, BitVec.extractLsb'_eq_self]

/-- Words with the same fields are the same word. -/
theorem word_eq_iff {w w' : Word64} :
    w = w' ↔ fieldOp w = fieldOp w' ∧ fieldA w = fieldA w' ∧ fieldB w = fieldB w' ∧ fieldV w = fieldV w' := by
  refine ⟨fun h => h ▸ ⟨rfl, rfl, rfl, rfl⟩, fun ⟨hop, ha, hb, hv⟩ => ?_⟩
  rw [← packCommand_fields w, hop, ha, hb, hv, packCommand_fields]

@[simp] theorem fieldOp_and (w m : Word64) : fieldOp (w &&& m) = fieldOp w &&& fieldOp m := BitVec.extractLsb'_and

@[simp] theorem fieldA_and (w m : Word64) : fieldA (w &&& m) = fieldA w &&& fieldA m := BitVec.extractLsb'_and

@[simp] theorem fieldB_and (w m : Word64) : fieldB (w &&& m) = fieldB w &&& fieldB m := BitVec.extractLsb'_and

@[simp] theorem fieldV_and (w m : Word64) : fieldV (w &&& m) = fieldV w &&& fieldV m := BitVec.extractLsb'_and

/-- Masking acts field by field. -/
theorem and_packCommand_iff {w : Word64} {mo op ma a : Word8} {mb b : Word16} {mv v : Word32} :
    w &&& packCommand mo ma mb mv = packCommand op a b v ↔
      fieldOp w &&& mo = op ∧ fieldA w &&& ma = a ∧ fieldB w &&& mb = b ∧ fieldV w &&& mv = v := by
  simp only [word_eq_iff, fieldOp_and, fieldA_and, fieldB_and, fieldV_and, fieldOp_packCommand, fieldA_packCommand,
    fieldB_packCommand, fieldV_packCommand]

theorem ofNat_toNat_self {n : Nat} (x : BitVec n) : BitVec.ofNat n x.toNat = x := by
  rw [BitVec.ofNat_toNat, BitVec.setWidth_eq]

theorem toNat_ofNat_of_lt {n x : Nat} (h : x < 2 ^ n) : (BitVec.ofNat n x).toNat = x := by
  rw [BitVec.toNat_ofNat, Nat.mod_eq_of_lt h]

/-! ## What a mask of R82 keeps -/

section Masks

variable {w : Word64} {op a : Word8} {b : Word16} {v : Word32}

theorem and_op_iff : w &&& 0xFF00000000000000 = packCommand op 0 0 0 ↔ fieldOp w = op := by
  have hmask : (0xFF00000000000000 : Word64) = packCommand (.allOnes 8) 0 0 0 := by decide
  simp only [hmask, and_packCommand_iff, BitVec.and_allOnes, BitVec.ofNat_eq_ofNat, BitVec.and_zero, and_true]

theorem and_op_a_iff : w &&& 0xFFFF000000000000 = packCommand op a 0 0 ↔ fieldOp w = op ∧ fieldA w = a := by
  have hmask : (0xFFFF000000000000 : Word64) = packCommand (.allOnes 8) (.allOnes 8) 0 0 := by decide
  simp only [hmask, and_packCommand_iff, BitVec.and_allOnes, BitVec.ofNat_eq_ofNat, BitVec.and_zero, and_true]

theorem and_op_b_iff : w &&& 0xFF00FFFF00000000 = packCommand op 0 b 0 ↔ fieldOp w = op ∧ fieldB w = b := by
  have hmask : (0xFF00FFFF00000000 : Word64) = packCommand (.allOnes 8) 0 (.allOnes 16) 0 := by decide
  simp only [hmask, and_packCommand_iff, BitVec.and_allOnes, BitVec.ofNat_eq_ofNat, BitVec.and_zero, true_and, and_true]

theorem and_op_v_iff : w &&& 0xFF000000FFFFFFFF = packCommand op 0 0 v ↔ fieldOp w = op ∧ fieldV w = v := by
  have hmask : (0xFF000000FFFFFFFF : Word64) = packCommand (.allOnes 8) 0 0 (.allOnes 32) := by decide
  simp only [hmask, and_packCommand_iff, BitVec.and_allOnes, BitVec.ofNat_eq_ofNat, BitVec.and_zero, true_and]

theorem and_op_a_b_iff :
    w &&& 0xFFFFFFFF00000000 = packCommand op a b 0 ↔ fieldOp w = op ∧ fieldA w = a ∧ fieldB w = b := by
  have hmask : (0xFFFFFFFF00000000 : Word64) = packCommand (.allOnes 8) (.allOnes 8) (.allOnes 16) 0 := by decide
  simp only [hmask, and_packCommand_iff, BitVec.and_allOnes, BitVec.ofNat_eq_ofNat, BitVec.and_zero, and_true]

theorem and_op_a_v_iff :
    w &&& 0xFFFF0000FFFFFFFF = packCommand op a 0 v ↔ fieldOp w = op ∧ fieldA w = a ∧ fieldV w = v := by
  have hmask : (0xFFFF0000FFFFFFFF : Word64) = packCommand (.allOnes 8) (.allOnes 8) 0 (.allOnes 32) := by decide
  simp only [hmask, and_packCommand_iff, BitVec.and_allOnes, BitVec.ofNat_eq_ofNat, BitVec.and_zero, true_and]

end Masks

/-! ## The sub-commands of `PARAM` (R83) -/

/-- What every sub-command is: it has no operand to check, reads OP, A and V, and is encoded with its index in A. -/
theorem paramInstr_some {n : Nat} {v : Word32} {i : Instr} (h : paramInstr n v = some i) :
    n ≤ 25 ∧ i.WellFormed ∧ readMask i = 0xFFFF0000FFFFFFFF ∧
      encode i = packCommand opParam (BitVec.ofNat 8 n) 0 v := by
  unfold paramInstr at h
  split at h
  case h_27 => cases h
  all_goals cases h; exact ⟨by decide, rfl, rfl, rfl⟩

theorem paramInstr_of_le {n : Nat} (h : n ≤ 25) (v : Word32) : ∃ i, paramInstr n v = some i :=
  have ⟨i, hi, _⟩ := paramInstr_exec ⟨n, Nat.lt_succ_of_le h⟩ v
  ⟨i, hi⟩

theorem paramInstr_of_gt {n : Nat} (h : 25 < n) (v : Word32) : paramInstr n v = none := by
  cases hp : paramInstr n v with
  | none => rfl
  | some i => exact absurd (paramInstr_some hp).1 (Nat.not_le.mpr h)

/-! ## Decoding and encoding (R81 to R89) -/

/-- A word that decodes to a command is the command's encoding in the fields the command reads. -/
theorem encodes_of_decode {w : Word64} {i : Instr} (h : decode w = .instr i) :
    i.WellFormed ∧ w &&& readMask i = encode i := by
  unfold decode decodeFields at h
  split at h
  case h_1 hop | h_2 hop | h_3 hop | h_11 hop | h_13 hop =>
    cases h
    exact ⟨rfl, and_op_iff.mpr (BitVec.eq_of_toNat_eq hop)⟩
  case h_4 hop =>
    cases h
    exact ⟨decide_eq_true (fieldA w).isLt,
      and_op_a_v_iff.mpr ⟨BitVec.eq_of_toNat_eq hop, (ofNat_toNat_self _).symm, rfl⟩⟩
  case h_5 hop | h_9 hop =>
    cases h
    exact ⟨decide_eq_true (fieldA w).isLt,
      and_op_a_iff.mpr ⟨BitVec.eq_of_toNat_eq hop, (ofNat_toNat_self _).symm⟩⟩
  case h_6 hop =>
    cases h
    exact ⟨Bool.and_eq_true_iff.mpr ⟨decide_eq_true (fieldA w).isLt, decide_eq_true (fieldB w).isLt⟩,
      and_op_a_b_iff.mpr ⟨BitVec.eq_of_toNat_eq hop, (ofNat_toNat_self _).symm,
        (ofNat_toNat_self _).symm⟩⟩
  case h_7 hop | h_14 hop =>
    cases h
    exact ⟨decide_eq_true (fieldB w).isLt,
      and_op_b_iff.mpr ⟨BitVec.eq_of_toNat_eq hop, (ofNat_toNat_self _).symm⟩⟩
  case h_8 hop =>
    unfold decodeParam at h
    split at h
    case h_1 j hj =>
      cases h
      obtain ⟨-, hwf, hmask, henc⟩ := paramInstr_some hj
      rw [hmask, henc]
      exact ⟨hwf, and_op_a_v_iff.mpr ⟨BitVec.eq_of_toNat_eq hop, (ofNat_toNat_self _).symm, rfl⟩⟩
    case h_2 => cases h
  case h_10 hop =>
    cases h
    exact ⟨rfl, and_op_v_iff.mpr ⟨BitVec.eq_of_toNat_eq hop, rfl⟩⟩
  case h_12 hop =>
    cases h
    exact ⟨Bool.and_eq_true_iff.mpr ⟨decide_eq_true (BitVec.le_toInt _), decide_eq_true BitVec.toInt_lt⟩,
      and_op_b_iff.mpr ⟨BitVec.eq_of_toNat_eq hop, BitVec.ofInt_toInt.symm⟩⟩
  case h_15 => cases h

/-- `PARAM` with the index of a sub-command decodes to it. -/
theorem decode_of_encodes_param {w : Word64} {i : Instr} {n : Nat} (hn : paramIndex i = some n)
    (h : w &&& readMask i = encode i) : decode w = .instr i := by
  obtain ⟨hlt, v, hv⟩ := paramInstr_of_paramIndex hn
  obtain ⟨-, -, hmask, henc⟩ := paramInstr_some hv
  rw [hmask, henc] at h
  obtain ⟨hop, ha, hv'⟩ := and_op_a_v_iff.mp h
  have hindex : (fieldA w).toNat = n := by rw [ha, toNat_ofNat_of_lt (by omega)]
  have hparam : decode w = decodeParam (fieldA w) (fieldV w) := by rw [decode, hop]; rfl
  rw [hparam, decodeParam, hindex, hv', hv]

/-- A word that is the encoding of a well-formed command in the fields the command reads decodes to it. -/
theorem decode_of_encodes {w : Word64} {i : Instr} (hwf : i.WellFormed) (h : w &&& readMask i = encode i) :
    decode w = .instr i := by
  cases i with
  | create | destroy | getvc | getvol | getoct =>
    rw [decode, and_op_iff.mp h]
    rfl
  | noteon note v =>
    obtain ⟨hop, ha, hv⟩ := and_op_a_v_iff.mp h
    have hnote : (fieldA w).toNat = note := by rw [ha, toNat_ofNat_of_lt (of_decide_eq_true hwf)]
    rw [← hnote, ← hv, decode, hop]
    rfl
  | noteoff x | getp x =>
    obtain ⟨hop, ha⟩ := and_op_a_iff.mp h
    have hx : (fieldA w).toNat = x := by rw [ha, toNat_ofNat_of_lt (of_decide_eq_true hwf)]
    rw [← hx, decode, hop]
    rfl
  | cc number value =>
    obtain ⟨hop, ha, hb⟩ := and_op_a_b_iff.mp h
    obtain ⟨hlt, hlt'⟩ := Bool.and_eq_true_iff.mp hwf
    have hnumber : (fieldA w).toNat = number := by rw [ha, toNat_ofNat_of_lt (of_decide_eq_true hlt)]
    have hvalue : (fieldB w).toNat = value := by rw [hb, toNat_ofNat_of_lt (of_decide_eq_true hlt')]
    rw [← hnumber, ← hvalue, decode, hop]
    rfl
  | bend x | render x =>
    obtain ⟨hop, hb⟩ := and_op_b_iff.mp h
    have hx : (fieldB w).toNat = x := by rw [hb, toNat_ofNat_of_lt (of_decide_eq_true hwf)]
    rw [← hx, decode, hop]
    rfl
  | setvol v =>
    obtain ⟨hop, hv⟩ := and_op_v_iff.mp h
    rw [← hv, decode, hop]
    rfl
  | setoct o =>
    obtain ⟨hop, hb⟩ := and_op_b_iff.mp h
    obtain ⟨hlo, hhi⟩ := Bool.and_eq_true_iff.mp hwf
    have ho : (fieldB w).toInt = o := by
      rw [hb, BitVec.toInt_ofInt_eq_self (by decide) (of_decide_eq_true hlo) (of_decide_eq_true hhi)]
    rw [← ho, decode, hop]
    rfl
  | _ => exact decode_of_encodes_param rfl h

/-- When a word decodes to a command: the command has an encoding, and the word is it in the fields the command
reads (R82). -/
theorem decode_eq_instr_iff {w : Word64} {i : Instr} :
    decode w = .instr i ↔ i.WellFormed ∧ w &&& readMask i = encode i :=
  ⟨encodes_of_decode, fun h => decode_of_encodes h.1 h.2⟩

/-- The encoder writes zeros in the fields a command ignores. -/
theorem encode_and_readMask (i : Instr) : encode i &&& readMask i = encode i := by
  cases i with
  | create | destroy | getvc | getvol | getoct => exact and_op_iff.mpr (fieldOp_packCommand _ _ _ _)
  | noteoff | getp => exact and_op_a_iff.mpr ⟨fieldOp_packCommand _ _ _ _, fieldA_packCommand _ _ _ _⟩
  | bend | setoct | render => exact and_op_b_iff.mpr ⟨fieldOp_packCommand _ _ _ _, fieldB_packCommand _ _ _ _⟩
  | setvol => exact and_op_v_iff.mpr ⟨fieldOp_packCommand _ _ _ _, fieldV_packCommand _ _ _ _⟩
  | cc =>
    exact and_op_a_b_iff.mpr ⟨fieldOp_packCommand _ _ _ _, fieldA_packCommand _ _ _ _, fieldB_packCommand _ _ _ _⟩
  | _ =>
    exact and_op_a_v_iff.mpr ⟨fieldOp_packCommand _ _ _ _, fieldA_packCommand _ _ _ _, fieldV_packCommand _ _ _ _⟩

/-- Settles O1: the encoded word is its own reading. -/
theorem decodeOfEncode : Obligations.DecodeOfEncode := fun i hwf =>
  decode_eq_instr_iff.mpr ⟨hwf, encode_and_readMask i⟩

/-- Settles O2, by what a decoded word is. -/
theorem encodeOfDecode : Obligations.EncodeOfDecode := fun _ _ h =>
  have ⟨hwf, henc⟩ := decode_eq_instr_iff.mp h
  ⟨hwf, henc.symm⟩

/-- Settles O3: whether a word decodes to a command depends on the bits the command reads, and a step on nothing of the
word but what it decodes to. -/
theorem ignoredFieldsHaveNoEffect : Obligations.IgnoredFieldsHaveNoEffect := by
  intro w w' i h hagree
  obtain ⟨hwf, henc⟩ := decode_eq_instr_iff.mp h
  have h' : decode w' = .instr i := decode_eq_instr_iff.mpr ⟨hwf, hagree.trans henc⟩
  refine ⟨h', fun s rest => ?_⟩
  rw [step_of_cons rfl, step_of_cons rfl, h, h']

/-! ## The opcode table (R83, R84) -/

/-- The 14 opcodes of R82. -/
def opcodes : List Word8 :=
  [opCreate, opDestroy, opGetvc, opNoteon, opNoteoff, opCc, opBend, opParam, opGetp, opSetvol, opGetvol, opSetoct,
    opGetoct, opRender]

theorem opcodeOf_mem (i : Instr) : opcodeOf i ∈ opcodes := by
  cases i <;> simp [opcodeOf, opcodes]

theorem mem_opcodes_of_toNat {op : Word8} {n : Nat} (h : op.toNat = n) (hn : n ∈ opcodes.map BitVec.toNat) :
    op ∈ opcodes := by
  obtain ⟨op', hmem, heq⟩ := List.mem_map.mp hn
  rwa [BitVec.eq_of_toNat_eq (h.trans heq.symm)]

theorem decodeFields_of_notMem {op : Word8} (h : op ∉ opcodes) (a : Word8) (b : Word16) (v : Word32) :
    decodeFields op a b v = .reservedOp op := by
  unfold decodeFields
  split
  case h_15 => rfl
  all_goals rename_i hop; exact absurd (mem_opcodes_of_toNat hop (by decide)) h

/-- An opcode of R82 other than `PARAM` has its command, whatever the operands. -/
theorem decodeFields_of_mem {op : Word8} (h : op ∈ opcodes) (hparam : op ≠ opParam) (a : Word8) (b : Word16)
    (v : Word32) : ∃ i, decodeFields op a b v = .instr i := by
  simp only [opcodes, List.mem_cons, hparam, false_or, List.not_mem_nil, or_false] at h
  rcases h with rfl | rfl | rfl | rfl | rfl | rfl | rfl | rfl | rfl | rfl | rfl | rfl | rfl <;> exact ⟨_, rfl⟩

/-- What a word of each kind decodes to. -/
theorem decode_cases (w : Word64) :
    (fieldOp w ∉ opcodes ∧ decode w = .reservedOp (fieldOp w)) ∨
    (fieldOp w = opParam ∧ 25 < (fieldA w).toNat ∧ decode w = .illegalIndex (fieldA w)) ∨
    (fieldOp w ∈ opcodes ∧ (fieldOp w = opParam → (fieldA w).toNat ≤ 25) ∧ ∃ i, decode w = .instr i) := by
  by_cases hmem : fieldOp w ∈ opcodes
  case neg => exact .inl ⟨hmem, decodeFields_of_notMem hmem _ _ _⟩
  by_cases hparam : fieldOp w = opParam
  case neg => exact .inr (.inr ⟨hmem, fun h => absurd h hparam, decodeFields_of_mem hmem hparam _ _ _⟩)
  have hdecode : decode w = decodeParam (fieldA w) (fieldV w) := by rw [decode, hparam]; rfl
  rw [hdecode, decodeParam]
  rcases Nat.lt_or_ge 25 (fieldA w).toNat with hgt | hle
  · exact .inr (.inl ⟨hparam, hgt, by rw [paramInstr_of_gt hgt]⟩)
  · obtain ⟨i, hi⟩ := paramInstr_of_le hle (fieldV w)
    exact .inr (.inr ⟨hmem, fun _ => hle, i, by rw [hi]⟩)

theorem decode_reservedOp_iff (w : Word64) : decode w = .reservedOp (fieldOp w) ↔ fieldOp w ∉ opcodes := by
  rcases decode_cases w with ⟨hmem, hd⟩ | ⟨hparam, -, hd⟩ | ⟨hmem, -, i, hd⟩
  · exact iff_of_true hd hmem
  · exact iff_of_false (hd ▸ Decoded.noConfusion) (not_not_intro (hparam ▸ by decide))
  · exact iff_of_false (hd ▸ Decoded.noConfusion) (not_not_intro hmem)

theorem decode_illegalIndex_iff (w : Word64) :
    decode w = .illegalIndex (fieldA w) ↔ fieldOp w = opParam ∧ 25 < (fieldA w).toNat := by
  rcases decode_cases w with ⟨hmem, hd⟩ | ⟨hparam, hgt, hd⟩ | ⟨-, hle, i, hd⟩
  · exact iff_of_false (hd ▸ Decoded.noConfusion) fun h => hmem (h.1 ▸ by decide)
  · exact iff_of_true hd ⟨hparam, hgt⟩
  · exact iff_of_false (hd ▸ Decoded.noConfusion) fun h => Nat.not_lt.mpr (hle h.1) h.2

theorem decode_instr_iff (w : Word64) :
    (∃ i, decode w = .instr i) ↔ fieldOp w ∈ opcodes ∧ (fieldOp w = opParam → (fieldA w).toNat ≤ 25) := by
  rcases decode_cases w with ⟨hmem, hd⟩ | ⟨hparam, hgt, hd⟩ | ⟨hmem, hle, hd⟩
  · exact iff_of_false (fun ⟨_, hi⟩ => Decoded.noConfusion (hd.symm.trans hi)) fun h => hmem h.1
  · exact iff_of_false (fun ⟨_, hi⟩ => Decoded.noConfusion (hd.symm.trans hi)) fun h =>
      Nat.not_lt.mpr (h.2 hparam) hgt
  · exact iff_of_true hd ⟨hmem, hle⟩

/-- A word is of the row of a command if it has its opcode, and its index in A if it is a sub-command. -/
theorem matchesRow_iff {w : Word64} {i : Instr} :
    w &&& tableMask i = tableMatch i ↔
      fieldOp w = opcodeOf i ∧ ∀ n, paramIndex i = some n → fieldA w = BitVec.ofNat 8 n := by
  unfold tableMask tableMatch
  cases paramIndex i with
  | none => exact and_op_iff.trans (and_iff_left fun _ => nofun).symm
  | some n => exact and_op_a_iff.trans (and_congr_right fun _ => by simp)

/-- The sub-commands are the commands with the opcode of `PARAM`. -/
theorem paramIndex_isSome_iff (i : Instr) : (paramIndex i).isSome ↔ opcodeOf i = opParam := by
  cases i <;> simp only [paramIndex, opcodeOf] <;> decide

theorem paramIndex_le {i : Instr} {n : Nat} (h : paramIndex i = some n) : n ≤ 25 :=
  Nat.le_of_lt_succ (paramInstr_of_paramIndex h).1

/-- The index of a sub-command stands in field A of the words of its row. -/
theorem toNat_fieldA_of_matchesRow {w : Word64} {i : Instr} {n : Nat} (h : w &&& tableMask i = tableMatch i)
    (hn : paramIndex i = some n) : (fieldA w).toNat = n := by
  have hle := paramIndex_le hn
  rw [(matchesRow_iff.mp h).2 n hn, toNat_ofNat_of_lt (by omega)]

theorem encode_matchesRow (i : Instr) : encode i &&& tableMask i = tableMatch i := by
  cases i with
  | create | destroy | getvc | noteon | noteoff | cc | bend | getp | setvol | getvol | setoct | getoct | render =>
    exact Laws.packCommand_and_op _ _ _ _
  | _ => exact Laws.packCommand_and_op_a _ _ _ _

/-- A command reads the bits that select its row. -/
theorem readMask_and_tableMask (i : Instr) : readMask i &&& tableMask i = tableMask i := by
  cases i <;> simp only [readMask, tableMask, paramIndex] <;> decide

theorem matchesRow_of_decode {w : Word64} {i : Instr} (h : decode w = .instr i) :
    w &&& tableMask i = tableMatch i := by
  rw [← readMask_and_tableMask, ← BitVec.and_assoc, (decode_eq_instr_iff.mp h).2, encode_matchesRow]

/-- A word of some row decodes to some command. -/
theorem decode_of_matchesRow {w : Word64} {i : Instr} (h : w &&& tableMask i = tableMatch i) :
    ∃ j, decode w = .instr j := by
  have hop := (matchesRow_iff.mp h).1
  refine (decode_instr_iff w).mpr ⟨hop ▸ opcodeOf_mem i, fun hparam => ?_⟩
  obtain ⟨n, hn⟩ := Option.isSome_iff_exists.mp ((paramIndex_isSome_iff i).mpr (hop ▸ hparam))
  rw [toNat_fieldA_of_matchesRow h hn]
  exact paramIndex_le hn

/-- The word determines the index of the row it is of. -/
theorem paramIndex_of_matchesRow {w : Word64} {i : Instr} (h : w &&& tableMask i = tableMatch i) :
    paramIndex i = if fieldOp w = opParam then some (fieldA w).toNat else none := by
  have hop := (matchesRow_iff.mp h).1
  cases hn : paramIndex i with
  | none => rw [if_neg (by rw [hop, ← paramIndex_isSome_iff, hn]; decide)]
  | some n =>
    rw [if_pos (by rw [hop, ← paramIndex_isSome_iff, hn]; rfl), toNat_fieldA_of_matchesRow h hn]

/-- Rows that share a word are the same row. -/
theorem row_unique {w : Word64} {i j : Instr} (hi : w &&& tableMask i = tableMatch i)
    (hj : w &&& tableMask j = tableMatch j) : tableMask i = tableMask j ∧ tableMatch i = tableMatch j := by
  have hindex : paramIndex i = paramIndex j := (paramIndex_of_matchesRow hi).trans (paramIndex_of_matchesRow hj).symm
  have hop : opcodeOf i = opcodeOf j := (matchesRow_iff.mp hi).1.symm.trans (matchesRow_iff.mp hj).1
  constructor
  · rw [tableMask, tableMask, hindex]
  · rw [tableMatch, tableMatch, hindex, hop]

/-- Settles O4: the row of a word is read off its fields OP and A, and so is the answer of the decoder. -/
theorem opcodeTableSelects : Obligations.OpcodeTableSelects :=
  ⟨fun _ => ⟨fun ⟨i, hi⟩ => ⟨i, matchesRow_of_decode hi⟩, fun ⟨_, hi⟩ => decode_of_matchesRow hi⟩,
    fun _ _ => matchesRow_of_decode, fun _ _ _ => row_unique, decode_reservedOp_iff, decode_illegalIndex_iff⟩

/-- Settles O5: each word is the encoding of the command beside it, which is well-formed. -/
theorem workedEncodings : Obligations.WorkedEncodings := by
  simp only [Obligations.WorkedEncodings, decode_eq_instr_iff]
  decide

end Sys2Proof.Proofs

/-! SUPPORT. What a command answers (R92, R401, R404): completed, or reported and nothing done; the registers read back
and set (R380 to R384). -/

namespace Sys2Proof.Proofs

open Sys2Proof.Machine

/-! ## Completed and reported commands (R401, R404) -/

/-- The command is answered OK. -/
def Completed (s t : State) : Prop :=
  ∃ op n v, t.rspPort = s.rspPort ++ [responseWord op statusOk n v]

/-- The command does nothing but emit the frames and respond. -/
def Reported (frames : List Word32) (s t : State) : Prop :=
  ∃ op status n v, t = (s.emit frames).respond op status n v

theorem completed_respond {s t : State} (h : t.rspPort = s.rspPort) (op : Word8) (n : Nat) (v : Word32) :
    Completed s (t.respond op statusOk n v) :=
  ⟨op, BitVec.ofNat 16 n, v, by rw [State.respond_rspPort, h]⟩

theorem completed_ok {s t : State} (h : t.rspPort = s.rspPort) (op : Word8) : Completed s (t.ok op) :=
  completed_respond h op 0 0

theorem reported_respond (s : State) (op status : Word8) (n : Nat) (v : Word32) :
    Reported [] s (s.respond op status n v) :=
  ⟨op, status, n, v, by rw [State.emit, List.append_nil]⟩

theorem completed_or_reported_of_withInstance {op : Word8} {s t : State} {body : State → State}
    (h : withInstance op s body = .next t) (hbody : Completed s (body s) ∨ Reported [] s (body s)) :
    Completed s t ∨ Reported [] s t := by
  rcases withInstance_cases h with ⟨-, rfl⟩ | ⟨-, rfl⟩
  · exact hbody
  · exact .inr (reported_respond s _ _ _ _)

theorem completed_or_reported_withNum {op : Word8} {v : Word32} {lo hi : NUM} {s : State} {body : NUM → State}
    (h : ∀ x, Completed s (body x)) :
    Completed s (withNum op v lo hi s body) ∨ Reported [] s (withNum op v lo hi s body) := by
  cases hx : numOperand v lo hi with
  | none => rw [withNum_of_none hx]; exact .inr (reported_respond s _ _ _ _)
  | some x => rw [withNum_of_some hx]; exact .inl (h x)

/-- Every command but `RENDER` is completed, or it is reported and nothing else happens. -/
theorem exec_completed_or_reported {i : Instr} {s t : State} (hrender : ∀ b, i ≠ .render b)
    (h : exec i s = .next t) : Completed s t ∨ Reported [] s t := by
  rcases exec_param_or i with ⟨k, v, hk⟩ | hnone
  · rw [hk, paramWith] at h
    exact completed_or_reported_of_withInstance h (completed_or_reported_withNum fun _ => completed_ok rfl _)
  cases i with
  | create => cases h; exact .inl (completed_ok rfl _)
  | destroy =>
    rw [exec, execDestroy] at h
    exact completed_or_reported_of_withInstance h (.inl (completed_ok rfl _))
  | getvc =>
    rw [exec, execGetvc] at h
    exact completed_or_reported_of_withInstance h (.inl (completed_respond rfl _ _ _))
  | noteon =>
    rw [exec, execNoteon] at h
    exact completed_or_reported_of_withInstance h (completed_or_reported_withNum fun _ => completed_ok rfl _)
  | noteoff =>
    rw [exec, execNoteoff] at h
    exact completed_or_reported_of_withInstance h (.inl (completed_ok rfl _))
  | cc =>
    rw [exec, execCc] at h
    refine completed_or_reported_of_withInstance h (.inl ?_)
    split
    · exact completed_ok rfl _
    · exact completed_ok rfl _
  | bend =>
    rw [exec, execBend] at h
    exact completed_or_reported_of_withInstance h (.inl (completed_ok rfl _))
  | getp =>
    rw [exec, execGetp] at h
    refine completed_or_reported_of_withInstance h ?_
    split
    · exact .inl (completed_respond rfl _ _ _)
    · exact .inr (reported_respond s _ _ _ _)
  | setvol =>
    rw [exec, execSetvol] at h
    exact completed_or_reported_of_withInstance h (completed_or_reported_withNum fun _ => completed_ok rfl _)
  | getvol =>
    rw [exec, execGetvol] at h
    exact completed_or_reported_of_withInstance h (.inl (completed_respond rfl _ _ _))
  | setoct =>
    rw [exec, execSetoct] at h
    exact completed_or_reported_of_withInstance h (.inl (completed_ok rfl _))
  | getoct =>
    rw [exec, execGetoct] at h
    exact completed_or_reported_of_withInstance h (.inl (completed_respond rfl _ _ _))
  | render b => exact absurd rfl (hrender b)
  | _ => cases hnone

/-- `RENDER` is completed with INST_VALID 1, and reported with silence with INST_VALID 0 (R321). -/
theorem exec_render_completed_or_reported {b : Nat} {s t : State} (h : exec (.render b) s = .next t) :
    Completed s t ∨ Reported (List.replicate (frameCount b) 0) s t := by
  cases hs : s.instValid with
  | true =>
    rw [exec_render_of_valid hs] at h
    cases h
    exact .inl (completed_respond (renderFrames_rspPort _ _ _) _ _ _)
  | false =>
    rw [exec_render_of_invalid hs] at h
    cases h
    exact .inr ⟨_, _, _, _, rfl⟩

/-! ## The silence of a word (R321) -/

/-- The frames that come with the report of a word: those of a `RENDER`, and no other word's. -/
def silence (w : Word64) : List Word32 :=
  if fieldOp w = opRender then List.replicate (frameCount (fieldB w).toNat) 0 else []

theorem silence_of_ne {w : Word64} (h : fieldOp w ≠ opRender) : silence w = [] := if_neg h

theorem fieldOp_of_decode {w : Word64} {i : Instr} (h : decode w = .instr i) : fieldOp w = opcodeOf i :=
  (matchesRow_iff.mp (matchesRow_of_decode h)).1

theorem decode_of_opRender {w : Word64} (h : fieldOp w = opRender) :
    decode w = .instr (.render (fieldB w).toNat) := by
  rw [decode, h]
  rfl

/-- What a word does: it is completed, or reported with its silence. -/
theorem runDecoded_completed_or_reported {w : Word64} {s t : State} (h : runDecoded (decode w) s = .next t) :
    Completed s t ∨ Reported (silence w) s t := by
  by_cases hop : fieldOp w = opRender
  case pos =>
    rw [decode_of_opRender hop, runDecoded] at h
    rw [silence, if_pos hop]
    exact exec_render_completed_or_reported h
  case neg =>
    rw [silence_of_ne hop]
    cases hd : decode w with
    | instr i =>
      rw [hd, runDecoded] at h
      refine exec_completed_or_reported ?_ h
      rintro b rfl
      exact hop (fieldOp_of_decode hd)
    | reservedOp op =>
      rw [hd, runDecoded, rejectReserved] at h
      cases h
      exact .inr (reported_respond s _ _ _ _)
    | illegalIndex a =>
      rw [hd, runDecoded, rejectIndex] at h
      exact completed_or_reported_of_withInstance h (.inr (reported_respond s _ _ _ _))

/-- STATUS is bits 55:48 of a response (R92). -/
theorem responseWord_status (op status : Word8) (n : Word16) (v : Word32) :
    (responseWord op status n v).extractLsb' 48 8 = status := fieldA_packCommand op status n v

/-- Settles O9: a response that is not OK is a report. -/
theorem reportedConditionsChangeNothing : Obligations.ReportedConditionsChangeNothing := by
  intro s t w r rest hport h hrsp hstatus
  rw [step_of_cons hport] at h
  rcases runDecoded_completed_or_reported h with ⟨op, n, v, hok⟩ | ⟨op, status, n, v, rfl⟩
  · obtain rfl : r = responseWord op statusOk n v := by simpa using hrsp.symm.trans hok
    exact absurd (responseWord_status op statusOk n v) hstatus
  · obtain rfl : r = responseWord op status (BitVec.ofNat 16 n) v := by simpa using hrsp.symm
    rfl

/-! ## Registers read back and set (R380 to R384) -/

/-- `GETP` of a legal index, with INST_VALID 1 (R380). -/
theorem exec_getp_of_valid {s : State} (hs : s.instValid = true) (i : Fin 26) :
    exec (.getp i) s = .next (s.respond opGetp statusOk 0 (f32Encode s.eng.params[i])) := by
  rw [exec, execGetp, withInstance_of_valid hs, dif_pos i.isLt]
  rfl

theorem exec_getp_of_gt {s : State} (hs : s.instValid = true) {j : Nat} (hj : 25 < j) :
    exec (.getp j) s = .next (s.respond opGetp statusBadidx 0 0) := by
  rw [exec, execGetp, withInstance_of_valid hs, dif_neg (by omega)]

/-- Settles O28: the two answers of `GETP`, their words written out. -/
theorem getpResult : Obligations.GetpResult := by
  refine fun s hs => ⟨fun i => (exec_getp_of_valid hs i).trans rfl, fun j hj => ?_⟩
  have hword : responseWord opGetp statusBadidx 0 0 = 0x2103000000000000 := by decide
  rw [exec_getp_of_gt hs hj, ← hword]
  rfl

theorem exec_setvol_of_some {s : State} {v : Word32} {x : NUM} (hs : s.instValid = true)
    (hx : numOperand v 0 1 = some x) :
    exec (.setvol v) s = .next ((s.setEng { s.eng with volume := x }).ok opSetvol) := by
  rw [exec, execSetvol, withInstance_of_valid hs, withNum_of_some hx]

theorem exec_setoct_of_valid {s : State} (hs : s.instValid = true) (o : Int) :
    exec (.setoct o) s = .next ((s.setEng { s.eng with octave := octaveSetting s.cfg o }).ok opSetoct) := by
  rw [exec, execSetoct, withInstance_of_valid hs]

/-- Settles O29: the answers of the four commands, the clamp of the octave as a minimum and a maximum. -/
theorem volumeAndOctaveResults : Obligations.VolumeAndOctaveResults := by
  refine fun s hs => ⟨fun v x hx => ?_, ?_, fun o ho => ?_, ?_⟩
  · have hword : responseWord opSetvol statusOk 0 0 = 0x2200000000000000 := by decide
    rw [exec_setvol_of_some hs hx, ← hword]
    rfl
  · rw [exec, execGetvol, withInstance_of_valid hs]
    rfl
  · have hword : responseWord opSetoct statusOk 0 0 = 0x2400000000000000 := by decide
    rw [exec_setoct_of_valid hs, octaveSetting, clampInt_eq_max_min ho, ← hword]
    rfl
  · rw [exec, execGetoct, withInstance_of_valid hs]
    rfl

end Sys2Proof.Proofs

/-! SUPPORT. What a block leaves of the registers, the smoother targets and the voices (R321, R327, R332, R341,
R424). -/

namespace Sys2Proof.Proofs

open Sys2Proof.Machine

/-! ## The frames and the shared smoothers of a block (R95, R321, R324) -/

theorem renderBlock_out_length (c : Config) (draws : Draws) (t n : Nat) (e : Engine) :
    (renderBlock c draws t n e).out.length = n := by
  rw [renderBlock_eq_renderByFrame]
  exact (scanBlock_length _ _ _).trans List.length_range'

theorem pcmFrames_length (c : Config) (volume : NUM) (out : List (NUM × NUM)) :
    (pcmFrames c volume out).length = out.length := List.length_map _

/-- The targets of two files of shared smoothers agree. -/
structure SameTargets (m m' : SharedSm) : Prop where
  pitchMod : m'.pitchMod.t = m.pitchMod.t
  cutoff : m'.cutoff.t = m.cutoff.t
  res : m'.res.t = m.res.t
  envMod : m'.envMod.t = m.envMod.t
  lfoMod : m'.lfoMod.t = m.lfoMod.t
  kbdMod : m'.kbdMod.t = m.kbdMod.t
  bendMod : m'.bendMod.t = m.bendMod.t

/-- An advance moves no target. -/
theorem sameTargets_sharedMod {c : Config} {m m' : SharedSm} (h : SameTargets m m') (x : Nat × NUM) :
    SameTargets m (sharedMod c m' x).1 :=
  ⟨h.pitchMod, h.cutoff, h.res, h.envMod, h.lfoMod, h.kbdMod, h.bendMod⟩

theorem sameTargets_renderBlock (c : Config) (draws : Draws) (t n : Nat) (e : Engine) :
    SameTargets e.sm (renderBlock c draws t n e).eng.sm := by
  rw [renderBlock_eq, blockMods]
  exact scanBlock_induct (f := sharedMod c) (P := SameTargets e.sm) (fun _ x h => sameTargets_sharedMod h x) e.sm _
    ⟨rfl, rfl, rfl, rfl, rfl, rfl, rfl⟩

/-! ## One voice over a block (R327, R332) -/

/-- What a block leaves of a voice, ended or not. -/
structure VoiceKept (u v : Voice) : Prop where
  freq : v.freq = u.freq
  vel : v.vel = u.vel
  bendMul : v.bendMul = u.bendMul
  vcaMode : v.vcaMode = u.vcaMode
  pwmSrc : v.pwmSrc = u.pwmSrc
  pwmSm : v.pwmSm.t = u.pwmSm.t
  saw : v.osc.saw.t = u.osc.saw.t
  pulse : v.osc.pulse.t = u.osc.pulse.t
  sub : v.osc.sub.t = u.osc.sub.t
  noise : v.osc.noise.t = u.osc.noise.t

theorem VoiceKept.refl (u : Voice) : VoiceKept u u := ⟨rfl, rfl, rfl, rfl, rfl, rfl, rfl, rfl, rfl, rfl⟩

theorem VoiceKept.trans {u v w : Voice} (huv : VoiceKept u v) (hvw : VoiceKept v w) : VoiceKept u w :=
  ⟨hvw.freq.trans huv.freq, hvw.vel.trans huv.vel, hvw.bendMul.trans huv.bendMul, hvw.vcaMode.trans huv.vcaMode,
    hvw.pwmSrc.trans huv.pwmSrc, hvw.pwmSm.trans huv.pwmSm, hvw.saw.trans huv.saw, hvw.pulse.trans huv.pulse,
    hvw.sub.trans huv.sub, hvw.noise.trans huv.noise⟩

/-- A sample of a voice advances the level smoothers and moves no target. -/
theorem voiceKept_voiceFrame (c : Config) (p : Vector NUM 26) (b : NUM) (d : Nat → NUM) (v : Voice) (m : ModFrame) :
    VoiceKept v (voiceFrame c p b d v m).1 := by
  obtain ⟨f, pwm, x, hosc⟩ : ∃ f pwm x, (voiceFrame c p b d v m).1.osc = oscAdvance c v.osc f pwm x :=
    ⟨_, _, _, rfl⟩
  obtain ⟨hsaw, hpulse, hsub, hnoise⟩ := oscAdvance_levels c v.osc f pwm x
  refine ⟨rfl, rfl, rfl, rfl, rfl, rfl, ?_, ?_, ?_, ?_⟩
  · rw [hosc, hsaw, Smoother.advance_t]
  · rw [hosc, hpulse, Smoother.advance_t]
  · rw [hosc, hsub, Smoother.advance_t]
  · rw [hosc, hnoise, Smoother.advance_t]

/-- What the samples of a block leave of a voice, before the deactivation check. -/
theorem voiceBlock_kept (c : Config) (p : Vector NUM 26) (b : NUM) (draws : Draws) (mods : List ModFrame) (k : Fin 6)
    (u : Voice) :
    VoiceKept u (voiceBlock c p b draws mods k u).1 ∧ (voiceBlock c p b draws mods k u).1.active = u.active ∧
      (voiceBlock c p b draws mods k u).1.note = u.note :=
  scanBlock_induct (f := voiceFrame c p b (draws (.voice k)))
    (P := fun v => VoiceKept u v ∧ v.active = u.active ∧ v.note = u.note)
    (fun v m h => ⟨h.1.trans (voiceKept_voiceFrame c p b _ v m), h.2⟩) u mods ⟨.refl u, rfl, rfl⟩

theorem voiceKept_deactivationCheck (c : Config) (v : Voice) : VoiceKept v (deactivationCheck c v) := by
  rcases deactivationCheck_cases c v with ⟨-, heq⟩ | ⟨-, heq⟩
  · rw [heq]
    exact .refl v
  · rw [heq]
    exact ⟨rfl, rfl, rfl, rfl, rfl, rfl, rfl, rfl, rfl, rfl⟩

/-- A voice that has ended with a block: silent, without a note, its units reset (R332, R424). -/
structure VoiceEnded (c : Config) (u v : Voice) : Prop where
  active : v.active = false
  note : v.note = none
  envA : v.envA = envShutdown c
  envG : v.envG = envShutdown c
  vcf : v.vcf = vcfReset c
  phase : v.osc.phase = 0
  subSign : v.osc.subSign = .plus
  aux : v.osc.aux = (oscAux c).1
  noiseAux : v.osc.noiseAux = (oscAux c).2
  saw : v.osc.saw.y = u.osc.saw.t
  pulse : v.osc.pulse.y = u.osc.pulse.t
  sub : v.osc.sub.y = u.osc.sub.t
  noise : v.osc.noise.y = u.osc.noise.t

/-- The deactivation check leaves a voice that sounds as it is, and ends any other. -/
theorem deactivationCheck_ends (c : Config) (v : Voice) :
    (deactivationCheck c v = v ∧ (currentEnv v).stage ≠ .idle) ∨ VoiceEnded c v (deactivationCheck c v) := by
  rcases deactivationCheck_cases c v with ⟨hlive, heq⟩ | ⟨-, heq⟩
  · exact .inl ⟨heq, by simpa [envActive] using hlive⟩
  · rw [heq]
    exact .inr ⟨rfl, rfl, rfl, rfl, rfl, rfl, rfl, rfl, rfl, rfl, rfl, rfl, rfl⟩

/-- The end of a voice, told of the voice before the block: the samples in between moved no target. -/
theorem VoiceEnded.of_kept {c : Config} {u v w : Voice} (h : VoiceEnded c v w) (hk : VoiceKept u v) :
    VoiceEnded c u w :=
  { h with
    saw := h.saw.trans hk.saw
    pulse := h.pulse.trans hk.pulse
    sub := h.sub.trans hk.sub
    noise := h.noise.trans hk.noise }

/-! ## The pool over a block -/

/-- What a block leaves of a voice of the pool. -/
structure VoiceRendered (c : Config) (u v : Voice) : Prop where
  inactive : u.active = false → v = u
  kept : VoiceKept u v
  active : u.active = true →
    (v.active = true ∧ v.note = u.note ∧ (currentEnv v).stage ≠ .idle) ∨ VoiceEnded c u v

/-- An active voice is run over the block and checked, an inactive one is skipped. -/
theorem voiceRendered_voiceBlockChecked (c : Config) (p : Vector NUM 26) (b : NUM) (draws : Draws)
    (mods : List ModFrame) (k : Fin 6) (u : Voice) :
    VoiceRendered c u (if u.active then (voiceBlockChecked c p b draws mods k u).1 else u) := by
  cases ha : u.active with
  | false => exact ⟨fun _ => rfl, .refl u, fun hu => absurd (ha.symm.trans hu) Bool.false_ne_true⟩
  | true =>
    obtain ⟨hkept, hactive, hnote⟩ := voiceBlock_kept c p b draws mods k u
    refine ⟨fun hu => absurd (hu.symm.trans ha) Bool.false_ne_true,
      hkept.trans (voiceKept_deactivationCheck c _), fun _ => ?_⟩
    rcases deactivationCheck_ends c (voiceBlock c p b draws mods k u).1 with ⟨heq, hlive⟩ | hended
    · have hchecked : (voiceBlockChecked c p b draws mods k u).1 = (voiceBlock c p b draws mods k u).1 := heq
      rw [if_pos rfl, hchecked]
      exact .inl ⟨hactive.trans ha, hnote, hlive⟩
    · exact .inr (hended.of_kept hkept)

/-- The voices after a block, slot by slot. -/
theorem renderBlock_voices (c : Config) (draws : Draws) (t n : Nat) (e : Engine) :
    (renderBlock c draws t n e).eng.voices =
      runActive (voiceBlockChecked c e.params e.bendSemi draws (blockMods c draws t n e).2) e.voices := by
  simp only [renderBlock_eq, blockVoices, renderSlot_eq_slotStep, foldl_slotStep_slots]

theorem voiceRendered_renderBlock (c : Config) (draws : Draws) (t n : Nat) (e : Engine) (k : Fin 6) :
    VoiceRendered c e.voices[k] (renderBlock c draws t n e).eng.voices[k] := by
  rw [renderBlock_voices, runActive_getElem]
  exact voiceRendered_voiceBlockChecked c _ _ _ _ k _

theorem renderFrames_freeNo (d : Draws) (n : Nat) (s : State) : (renderFrames d n s).freeNo = s.freeNo := by
  simp [renderFrames]

theorem renderFrames_volume (d : Draws) (n : Nat) (s : State) :
    (renderFrames d n s).eng.volume = s.eng.volume := by
  rw [renderFrames_eng, renderBlock_eq]

theorem renderFrames_octave (d : Draws) (n : Nat) (s : State) :
    (renderFrames d n s).eng.octave = s.eng.octave := by
  rw [renderFrames_eng, renderBlock_eq]

/-- Settles O34: the next state of `RENDER` part by part. -/
theorem renderLeaves : Obligations.RenderLeaves := by
  intro b s hs
  have htargets := sameTargets_renderBlock s.cfg Config.rand s.frameNo (frameCount b) s.eng
  have hvoice := voiceRendered_renderBlock s.cfg Config.rand s.frameNo (frameCount b) s.eng
  simp only [← renderFrames_eng] at htargets hvoice
  refine ⟨_, pcmFrames s.cfg s.eng.volume (renderBlock s.cfg Config.rand s.frameNo (frameCount b) s.eng).out,
    exec_render_of_valid hs b, (pcmFrames_length _ _ _).trans (renderBlock_out_length _ _ _ _ _), ?_⟩
  simp only [State.respond_pcmPort, State.respond_rspPort, State.respond_cmdPort, State.respond_cfg,
    State.respond_instValid, State.respond_freeNo, State.respond_eng, renderFrames_pcmPort, renderFrames_rspPort,
    renderFrames_cmdPort, renderFrames_cfg, renderFrames_instValid, hs, renderFrames_freeNo, renderFrames_params,
    renderFrames_volume, renderFrames_octave, renderFrames_bendSemi, true_and]
  refine ⟨rfl, ⟨htargets.pitchMod, htargets.cutoff, htargets.res, htargets.envMod, htargets.lfoMod, htargets.kbdMod,
    htargets.bendMod⟩, fun k => ?_⟩
  have hrendered := hvoice k
  generalize (renderFrames Config.rand (frameCount b) s).eng.voices[k] = v at hrendered ⊢
  obtain ⟨hinactive, hk, hactive⟩ := hrendered
  refine ⟨hinactive, ⟨hk.freq, hk.vel, hk.bendMul, hk.vcaMode, hk.pwmSrc, hk.pwmSm, hk.saw, hk.pulse, hk.sub,
    hk.noise⟩, fun ha => (hactive ha).imp_right fun he => ?_⟩
  exact ⟨he.active, he.note, he.envA, he.envG, he.vcf, he.phase, he.subSign, he.aux, he.noiseAux, he.saw, he.pulse,
    he.sub, he.noise⟩

end Sys2Proof.Proofs

/-! SUPPORT. The life cycle of an instance (R112, R114, R423), and the active voices as they are reported (R116). -/

namespace Sys2Proof.Proofs

open Sys2Proof.Machine

/-! ## DESTROY and CREATE (R112, R114, R421, R423) -/

theorem exec_destroy_of_valid {s : State} (hs : s.instValid = true) :
    exec .destroy s = .next (s.release.ok opDestroy) := by
  rw [exec, execDestroy, withInstance_of_valid hs]

/-- What `CREATE` leaves depends on the configuration alone. -/
theorem exec_create_leaves {s t : State} (h : exec .create s = .next t) :
    t.eng = initialEngine s.cfg ∧ t.instValid = true := by
  cases h
  exact ⟨rfl, rfl⟩

/-- Settles O12: `DESTROY` keeps the configuration, and that alone decides the engine a `CREATE` leaves. -/
theorem destroyResult : Obligations.DestroyResult := by
  intro s hs
  have hword : responseWord opDestroy statusOk 0 0 = 0x0200000000000000 := by decide
  refine ⟨s.release.ok opDestroy, exec_destroy_of_valid hs, ?_⟩
  simp only [State.ok_instValid, State.ok_cfg, State.ok_frameNo, State.ok_cmdPort, State.ok_pcmPort,
    State.ok_rspPort, State.release_instValid, State.release_cfg, State.release_frameNo, State.release_cmdPort,
    State.release_pcmPort, State.release_rspPort, hword, true_and]
  intro u w hu hw
  obtain ⟨hueng, huvalid⟩ := exec_create_leaves hu
  obtain ⟨hweng, -⟩ := exec_create_leaves hw
  exact ⟨hueng.trans hweng.symm, huvalid⟩

/-! ## The active slots (R116)

`activeCount` is their number, and `activeMask` the number whose bits they are. -/

/-- The slots with an active voice, in ascending order. -/
def activeSlots (vs : Vector Voice 6) : List (Fin 6) := slots.filter fun k => vs[k].active

theorem mem_activeSlots {vs : Vector Voice 6} {k : Fin 6} : k ∈ activeSlots vs ↔ vs[k].active = true := by
  simp [activeSlots, mem_slots]

theorem activeSlots_sorted (vs : Vector Voice 6) : ((activeSlots vs).map Fin.val).SortedLT := by
  have hslots : slots.Pairwise fun i j => i.val < j.val := by decide
  have hactive : (activeSlots vs).Pairwise fun i j => i.val < j.val := hslots.filter _
  exact (List.pairwise_map.mpr hactive).sortedLT

theorem activeSlots_nodup (vs : Vector Voice 6) : (activeSlots vs).Nodup := slots_nodup.filter _

theorem activeCount_eq_length (vs : Vector Voice 6) : activeCount vs = (activeSlots vs).length :=
  List.countP_eq_length_filter

theorem activeCount_le_six (vs : Vector Voice 6) : activeCount vs ≤ 6 := List.countP_le_length

theorem activeCount_eq_card (vs : Vector Voice 6) :
    activeCount vs = (Finset.univ.filter fun k : Fin 6 => vs[k].active = true).card := by
  have hset : (Finset.univ.filter fun k : Fin 6 => vs[k].active = true) = (activeSlots vs).toFinset := by
    ext k
    simp [mem_activeSlots]
  rw [hset, activeCount_eq_length, List.toFinset_card_of_nodup (activeSlots_nodup vs)]

theorem activeMask_eq_sum (vs : Vector Voice 6) :
    activeMask vs = (((activeSlots vs).map Fin.val).map (2 ^ ·)).sum := by
  rw [activeMask, List.sum_map_ite]
  simp [activeSlots, Function.comp_def]

/-- The active slots are the bits of the mask. -/
theorem activeMask_testBit (vs : Vector Voice 6) (j : Nat) :
    (activeMask vs).testBit j = true ↔ ∃ k : Fin 6, k.val = j ∧ vs[k].active = true := by
  have hbits : (activeMask vs).bitIndices = (activeSlots vs).map Fin.val := by
    rw [activeMask_eq_sum, Nat.bitIndices_sum_map_two_pow (activeSlots_sorted vs)]
  rw [← Nat.mem_bitIndices, hbits]
  simp only [List.mem_map, mem_activeSlots, and_comm]

/-! ## GETVC (R116) -/

theorem exec_getvc_of_valid {s : State} (hs : s.instValid = true) :
    exec .getvc s = .next (s.respond opGetvc statusOk (activeCount s.eng.voices)
      (BitVec.ofNat 32 (activeMask s.eng.voices))) := by
  rw [exec, execGetvc, withInstance_of_valid hs]

/-- Settles O13: COUNT is the number of the active slots, VALUE the mask of them. -/
theorem getvcResult : Obligations.GetvcResult := by
  refine fun s => ⟨fun hs => ?_, fun hs => ?_⟩
  · exact noInstanceMeansNoOperation .getvc s hs Instr.noConfusion
  · exact ⟨activeCount s.eng.voices, activeMask s.eng.voices, exec_getvc_of_valid hs, activeCount_eq_card _,
      activeCount_le_six _, activeMask_testBit _⟩

end Sys2Proof.Proofs

/-! SUPPORT. The scheduler (R126 to R146): which slot a scan of the pool finds, the note commands on the engine, and
commands run one after another. -/

namespace Sys2Proof.Proofs

open Sys2Proof.Machine

/-! ## The first slot of the pool with a property (R10, R45) -/

theorem slots_getElem (i : Fin 6) : slots[i] = i := by
  revert i; decide

/-- The slots are scanned in ascending order: the one found is the lowest. -/
theorem firstSlot_eq_some_iff {vs : Vector Voice 6} {p : Voice → Bool} {k : Fin 6} :
    firstSlot vs p = some k ↔ p vs[k] = true ∧ ∀ j : Fin 6, j < k → p vs[j] = false := by
  have hslot (i : Nat) (hi : i < slots.length) : slots[i] = (⟨i, hi⟩ : Fin 6) := slots_getElem ⟨i, hi⟩
  simp only [firstSlot, List.find?_eq_some_iff_getElem, hslot, Bool.not_eq_true']
  refine and_congr_right fun _ => ⟨?_, fun h => ⟨k, k.isLt, rfl, fun j hj => h ⟨j, hj.trans k.isLt⟩ hj⟩⟩
  rintro ⟨i, hi, rfl, h⟩ j hj
  exact h j hj

theorem firstSlot_eq_none_iff {vs : Vector Voice 6} {p : Voice → Bool} :
    firstSlot vs p = none ↔ ∀ j : Fin 6, p vs[j] = false := by
  simp [firstSlot, mem_slots]

/-! ## Allocation (R128, R196) -/

theorem alloc_of_inactive {c : Config} {vs : Vector Voice 6} {k : Fin 6} (hk : vs[k].active = false)
    (hlow : ∀ j : Fin 6, j < k → vs[j].active = true) : alloc c vs = k := by
  have hfirst : firstSlot vs (fun v => !v.active) = some k :=
    firstSlot_eq_some_iff.mpr ⟨by simpa using hk, fun j hj => by simpa using hlow j hj⟩
  rw [alloc, hfirst]

theorem alloc_of_all_active {c : Config} {vs : Vector Voice 6} (h : ∀ j : Fin 6, vs[j].active = true) :
    alloc c vs = (firstSlot vs fun v => envReleased c (currentEnv v)).getD 0 := by
  have hnone : firstSlot vs (fun v => !v.active) = none := firstSlot_eq_none_iff.mpr fun j => by simpa using h j
  rw [alloc, hnone]
  cases firstSlot vs fun v => envReleased c (currentEnv v) <;> rfl

theorem alloc_of_released {c : Config} {vs : Vector Voice 6} {k : Fin 6} (h : ∀ j : Fin 6, vs[j].active = true)
    (hk : envReleased c (currentEnv vs[k]) = true)
    (hlow : ∀ j : Fin 6, j < k → envReleased c (currentEnv vs[j]) = false) : alloc c vs = k := by
  have hfirst : firstSlot vs (fun v => envReleased c (currentEnv v)) = some k :=
    firstSlot_eq_some_iff.mpr ⟨hk, hlow⟩
  rw [alloc_of_all_active h, hfirst, Option.getD_some]

theorem alloc_of_none_released {c : Config} {vs : Vector Voice 6} (h : ∀ j : Fin 6, vs[j].active = true)
    (hr : ∀ j : Fin 6, envReleased c (currentEnv vs[j]) = false) : alloc c vs = 0 := by
  have hnone : firstSlot vs (fun v => envReleased c (currentEnv v)) = none := firstSlot_eq_none_iff.mpr hr
  rw [alloc_of_all_active h, hnone, Option.getD_none]

theorem envReleased_completed_iff {c : Config} (hc : c.releasedReading = .completed) (e : EnvState) :
    envReleased c e = true ↔ (e.stage = .release ∧ e.level ≤ c.envReleasedEps) ∨ e.stage = .idle := by
  cases hstage : e.stage <;> simp [envReleased, hstage, hc]

theorem envReleased_entered_iff {c : Config} (hc : c.releasedReading = .entered) (e : EnvState) :
    envReleased c e = true ↔ e.stage = .release ∨ e.stage = .idle := by
  cases hstage : e.stage <;> simp [envReleased, hstage, hc]

/-- Settles O15: the three cases of the scan, then the two readings stage by stage. -/
theorem allocPolicy : Obligations.AllocPolicy := fun _ _ =>
  ⟨fun _ => alloc_of_inactive, fun hactive => ⟨fun _ => alloc_of_released hactive, alloc_of_none_released hactive⟩,
    fun e => ⟨fun hc => envReleased_completed_iff hc e, fun hc => envReleased_entered_iff hc e⟩⟩

/-! ## NOTEOFF (R135, R192, R201, R265) -/

/-- Only the three stages before Release are left, at the present level (R192). -/
theorem envNoteOff_eq (e : EnvState) :
    envNoteOff e =
      if e.stage = .attack ∨ e.stage = .decay ∨ e.stage = .sustain then { e with stage := .release } else e := by
  cases hstage : e.stage <;> simp [envNoteOff, hstage]

theorem holdsNote_iff {c : Config} {n : Nat} {v : Voice} :
    holdsNote c n v = true ↔ v.active = true ∧ envReleased c (currentEnv v) = false ∧ v.note = some n := by
  simp [holdsNote, and_assoc]

theorem anySounding_eq_false_iff (c : Config) (vs : Vector Voice 6) :
    anySounding c vs = false ↔
      ∀ j : Fin 6, ¬((vs[j]).active = true ∧ envReleased c (currentEnv vs[j]) = false) := by
  simp only [← sounding_iff, anySounding, List.any_eq_false]
  exact ⟨fun h j => h j (mem_slots j), fun h j _ => h j⟩

theorem noteOffEngine_of_none {c : Config} {e : Engine} {n : Nat}
    (h : ∀ j : Fin 6, holdsNote c n e.voices[j] = false) : noteOffEngine c e n = e := by
  rw [noteOffEngine, firstSlot_eq_none_iff.mpr h]

theorem noteOffEngine_of_first {c : Config} {e : Engine} {n : Nat} {k : Fin 6}
    (hk : holdsNote c n e.voices[k] = true) (hlow : ∀ j : Fin 6, j < k → holdsNote c n e.voices[j] = false) :
    noteOffEngine c e n =
      { e with
        voices := e.voices.set k (releaseVoice e.voices[k])
        lfo := if lfoTrigAuto e.params && !anySounding c (e.voices.set k (releaseVoice e.voices[k]))
          then lfoNoteOff e.lfo else e.lfo } := by
  rw [noteOffEngine, firstSlot_eq_some_iff.mpr ⟨hk, hlow⟩]

theorem exec_noteoff_of_valid {s : State} (hs : s.instValid = true) (a : Nat) :
    exec (.noteoff a) s =
      .next ((s.setEng (noteOffEngine s.cfg s.eng (transposedNote s.eng.octave a))).ok opNoteoff) := by
  rw [exec, execNoteoff, withInstance_of_valid hs]

theorem exec_noteoff_of_miss {s : State} (hs : s.instValid = true) {a : Nat}
    (h : ∀ j : Fin 6, holdsNote s.cfg (transposedNote s.eng.octave a) s.eng.voices[j] = false) :
    exec (.noteoff a) s = .next (s.ok opNoteoff) := by
  rw [exec_noteoff_of_valid hs, noteOffEngine_of_none h]
  rfl

/-- Settles O17: the engine after a note-off of the lowest match, its operations written out, and without a match. -/
theorem noteoffResult : Obligations.NoteoffResult := by
  intro s note hs n hit released
  have hhit (j : Fin 6) : holdsNote s.cfg n s.eng.voices[j] = false ↔ ¬hit j :=
    Bool.eq_false_iff.trans (not_congr holdsNote_iff)
  have hn : transposedNote s.eng.octave note = n := transposedNote_eq _ _
  refine ⟨fun k hk hlow => ?_, fun hmiss => ?_⟩
  · intro u vs
    have hlfo : (lfoTrigAuto s.eng.params && !anySounding s.cfg vs) = true ↔
        tag s.eng.params[20] 2 = 0 ∧
          ∀ j : Fin 6, ¬((vs[j]).active = true ∧ envReleased s.cfg (currentEnv vs[j]) = false) := by
      rw [Bool.and_eq_true, lfoTrigAuto_iff, Bool.not_eq_true', anySounding_eq_false_iff]
    have hvs : s.eng.voices.set k (releaseVoice s.eng.voices[k]) = vs := by
      simp only [releaseVoice, envNoteOff_eq, vs, u, released]
    rw [exec_noteoff_of_valid hs, hn,
      noteOffEngine_of_first (holdsNote_iff.mpr hk) fun j hj => (hhit j).mpr (hlow j hj), hvs]
    simp only [← hlfo]
    rfl
  · rw [exec_noteoff_of_miss hs fun j => hn ▸ (hhit j).mpr (hmiss j)]
    rfl

/-! ## CC (R140 to R142, R193) -/

theorem exec_cc_of_valid {s : State} (hs : s.instValid = true) (number value : Nat) :
    exec (.cc number value) s = .next
      (if number = 120 ∨ number = 123 then (s.setEng (s.eng.mapVoices (silenceVoice s.cfg))).ok opCc
       else s.ok opCc) := by
  rw [exec, execCc, withInstance_of_valid hs]
  rfl

/-- Settles O18: the two controllers silence the pool voice by voice, every other one maps each voice to itself. -/
theorem ccResult : Obligations.CcResult := by
  intro s number value hs
  rw [exec_cc_of_valid hs]
  by_cases hoff : number = 120 ∨ number = 123
  · simp only [hoff, if_true, true_and]
    rfl
  · simp only [hoff, if_false, false_and, Vector.map_id_fun']
    rfl

/-! ## BEND (R145) -/

/-- The bend in semitones, written out (R145). -/
theorem bendSemitones_written (n : Numerics) (b : Nat) :
    bendSemitones n b = n.mul (n.div (((min b 16383 : Nat) : NUM) - 8192) 8192) 7 := by
  simp only [bendSemitones, Config.bendMax, Config.bendCentre, Config.bendDiv, Config.bendRange]
  push_cast
  rfl

/-- An active voice under a bend, its frequency written out (R145). -/
theorem bendVoice_eq (n : Numerics) (b : NUM) :
    bendVoice n b = fun v =>
      if v.active = true then
        { v with
          bendMul := exp2 n (n.div b 12)
          freq := n.mul (n.mul 440 (exp2 n (n.div (((v.note.getD 0 : Nat) : NUM) - 69) 12)))
            (exp2 n (n.div b 12)) }
      else v := by
  funext v
  rw [bendVoice, tunedFreq_eq]
  rfl

theorem exec_bend_of_invalid {s : State} (hs : s.instValid = false) (value : Nat) :
    exec (.bend value) s = .next (s.respond opBend statusNoinst 0 0) := by
  rw [exec, execBend, withInstance_of_invalid hs]

theorem exec_bend_of_valid {s : State} (hs : s.instValid = true) (value : Nat) :
    exec (.bend value) s =
      .next ((s.setEng (bendEngine s.cfg.num s.eng (bendSemitones s.cfg.num value))).ok opBend) := by
  rw [exec, execBend, withInstance_of_valid hs]

/-- Settles O19: the engine after a bend, with the bend and the frequencies written out. -/
theorem bendResult : Obligations.BendResult := by
  refine fun s value => ⟨fun hs => ?_, fun hs => ?_⟩
  · rw [exec_bend_of_invalid hs]
    rfl
  · intro num b
    rw [exec_bend_of_valid hs, bendSemitones_written]
    simp only [bendEngine, bendVoice_eq, Engine.mapVoices]
    rfl

/-! ## Commands run one after another (R66) -/

theorem runAll_cons {i : Instr} {is : List Instr} {s t : State} (h : exec i s = .next t) :
    runAll (i :: is) s = runAll is t := by
  rw [runAll, h]

theorem runAll_append {is js : List Instr} {s t : State} (h : runAll is s = .next t) :
    runAll (is ++ js) s = runAll js t := by
  induction is generalizing s with
  | nil => cases h; rfl
  | cons i is ih =>
    rw [runAll] at h
    split at h
    case h_1 u hu => rw [List.cons_append, runAll_cons hu, ih h]
    case h_2 => cases h
    case h_3 => cases h

theorem runAll_concat {is : List Instr} {i : Instr} {s t u : State} (h : runAll is s = .next t)
    (hi : exec i t = .next u) : runAll (is ++ [i]) s = .next u := by
  rw [runAll_append h, runAll_cons hi, runAll]

/-- A property of the number of commands run so far that each of them carries on holds when all have run. -/
theorem runAll_ofFn {n : Nat} {f : Fin n → Instr} {P : Nat → State → Prop}
    (hstep : ∀ (j : Fin n) s, P j s → ∃ t, exec (f j) s = .next t ∧ P (j + 1) t) {s : State} (h : P 0 s) :
    ∃ t, runAll (List.ofFn f) s = .next t ∧ P n t := by
  induction n with
  | zero => exact ⟨s, by rw [List.ofFn_zero, runAll], h⟩
  | succ n ih =>
    obtain ⟨t, hrun, ht⟩ := ih (f := fun j => f j.castSucc) fun j => hstep j.castSucc
    obtain ⟨u, hlast, hu⟩ := hstep (Fin.last n) t ht
    exact ⟨u, by rw [List.ofFn_succ', List.concat_eq_append, runAll_concat hrun hlast], hu⟩

/-! ## Notes struck on an idle pool (R128, R130, R132) -/

/-- A voice that holds a note and whose two envelopes are in Attack. -/
structure Struck (n : Nat) (v : Voice) : Prop where
  active : v.active = true
  note : v.note = some n
  envA : v.envA.stage = .attack
  envG : v.envG.stage = .attack

theorem struck_strikeVoice (c : Config) (p : Vector NUM 26) (b : NUM) (n : Nat) (x : NUM) (v : Voice) :
    Struck n (strikeVoice c p b n x v) := ⟨rfl, rfl, rfl, rfl⟩

/-- Under either reading of released, a voice just struck is not. -/
theorem Struck.not_released {n : Nat} {v : Voice} (h : Struck n v) (c : Config) :
    envReleased c (currentEnv v) = false := by
  have hstage : (currentEnv v).stage = .attack := by
    rcases currentEnv_envelopes v with hcur | hcur
    · rw [hcur, h.envA]
    · rw [hcur, h.envG]
  simp [envReleased, hstage]

/-- What a note-on of note `n` in slot `k` makes of a state, as far as the scheduler reads it. -/
structure StruckAt (s t : State) (k : Fin 6) (n : Nat) : Prop where
  valid : t.instValid = true
  cfg : t.cfg = s.cfg
  octave : t.eng.octave = s.eng.octave
  voice : Struck n t.eng.voices[k]
  others : ∀ j : Fin 6, j ≠ k → t.eng.voices[j] = s.eng.voices[j]

theorem exec_noteon_struckAt {s : State} {k : Fin 6} (hs : s.instValid = true) (a : Nat) {v : Word32}
    (hv : numOperand v 0 1 ≠ none) (hk : alloc s.cfg s.eng.voices = k) :
    ∃ t, exec (.noteon a v) s = .next t ∧ StruckAt s t k (transposedNote s.eng.octave a) := by
  obtain ⟨vel, hvel⟩ := Option.ne_none_iff_exists'.mp hv
  subst hk
  refine ⟨_, exec_noteon_of_some hs hvel, hs, rfl, rfl, ?_, fun j hj => ?_⟩
  · simpa [noteOnEngine] using struck_strikeVoice _ _ _ _ _ _
  · have hne : (alloc s.cfg s.eng.voices).val ≠ j := fun he => hj (Fin.ext he.symm)
    simp [noteOnEngine, Vector.getElem_set_ne, hne]

/-- A pool whose slots below `j` hold the notes struck so far, in order, and whose others are inactive. -/
structure Filled (note : Fin 6 → Nat) (octave : Int) (j : Nat) (s : State) : Prop where
  valid : s.instValid = true
  octave : s.eng.octave = octave
  struck : ∀ k : Fin 6, k.val < j → Struck (note k) s.eng.voices[k]
  idle : ∀ k : Fin 6, j ≤ k.val → (s.eng.voices[k]).active = false

theorem Filled.alloc_eq {note : Fin 6 → Nat} {octave : Int} {j : Fin 6} {s : State} (h : Filled note octave j s) :
    alloc s.cfg s.eng.voices = j :=
  alloc_of_inactive (h.idle j le_rfl) fun i hi => (h.struck i hi).active

/-- With every slot struck and none released, the first is stolen (R128). -/
theorem Filled.alloc_full {note : Fin 6 → Nat} {octave : Int} {s : State} (h : Filled note octave 6 s) :
    alloc s.cfg s.eng.voices = 0 :=
  alloc_of_none_released (fun i => (h.struck i i.isLt).active) fun i => (h.struck i i.isLt).not_released _

/-- The next note of an order goes into the next slot. -/
theorem Filled.noteon {note : Fin 6 → Nat} {octave : Int} {j : Fin 6} {s : State} (h : Filled note octave j s)
    {a : Nat} (ha : transposedNote octave a = note j) {v : Word32} (hv : numOperand v 0 1 ≠ none) :
    ∃ t, exec (.noteon a v) s = .next t ∧ Filled note octave (j + 1) t := by
  obtain ⟨t, hexec, ht⟩ := exec_noteon_struckAt h.valid a hv h.alloc_eq
  rw [h.octave, ha] at ht
  refine ⟨t, hexec, ht.valid, ht.octave.trans h.octave, fun k hk => ?_, fun k hk => ?_⟩
  · by_cases hkj : k = j
    · exact hkj ▸ ht.voice
    · rw [ht.others k hkj]
      exact h.struck k (by omega)
  · rw [ht.others k (by omega)]
    exact h.idle k (by omega)

/-- Settles O21: six notes fill the slots in order, and the seventh finds none inactive and none released. -/
theorem seventhNoteStealsSlotZero : Obligations.SeventhNoteStealsSlotZero := by
  intro s note v hs hidle hv
  have hstart : Filled (fun k => transposedNote s.eng.octave (note k.castSucc)) s.eng.octave 0 s :=
    ⟨hs, rfl, fun k hk => absurd hk (Nat.not_lt_zero _), fun k _ => hidle k⟩
  obtain ⟨t, hsix, ht⟩ := runAll_ofFn (f := fun j : Fin 6 => Instr.noteon (note j.castSucc) (v j.castSucc))
    (fun j _ h => h.noteon rfl (hv j.castSucc)) hstart
  obtain ⟨u, hseventh, hu⟩ := exec_noteon_struckAt ht.valid (note 6) (hv 6) ht.alloc_full
  refine ⟨u, ?_, fun k => ?_, hu.voice.note.trans (by rw [ht.octave]), fun k hk => ?_⟩
  · rw [List.ofFn_succ', List.concat_eq_append]
    exact runAll_concat hsix hseventh
  · by_cases hk : k = 0
    · exact hk ▸ hu.voice.active
    · rw [hu.others k hk]
      exact (ht.struck k k.isLt).active
  · rw [hu.others k hk]
    exact (ht.struck k k.isLt).note

/-- Settles O22: voice 0 holds the first note, the others are inactive, so no voice holds the note of the key under
the new octave and the note-off changes nothing. -/
theorem octaveChangeLeavesNoteHeld : Obligations.OctaveChangeLeavesNoteHeld := by
  intro s a v o hs hidle hv hmoved
  have hzero : alloc s.cfg s.eng.voices = 0 := alloc_of_inactive (hidle 0) fun j hj => absurd hj (Fin.not_lt_zero j)
  obtain ⟨t, hon, ht⟩ := exec_noteon_struckAt hs a hv hzero
  have hmiss (j : Fin 6) : holdsNote t.cfg (transposedNote (octaveSetting t.cfg o) a) t.eng.voices[j] = false := by
    rw [← Bool.not_eq_true, holdsNote_iff, ht.cfg]
    rintro ⟨hactive, -, hnote⟩
    by_cases hj : j = 0
    · subst hj
      exact hmoved (Option.some.inj (hnote.symm.trans ht.voice.note))
    · rw [ht.others j hj, hidle j] at hactive
      exact Bool.false_ne_true hactive
  have hset := exec_setoct_of_valid ht.valid o
  have hoff := exec_noteoff_of_miss
    (s := (t.setEng { t.eng with octave := octaveSetting t.cfg o }).ok opSetoct) ht.valid hmiss
  exact ⟨_, (runAll_cons hon).trans ((runAll_cons hset).trans ((runAll_cons hoff).trans rfl)), ht.voice.active,
    ht.voice.note, ht.voice.envA, ht.voice.envG⟩

end Sys2Proof.Proofs

/-! SUPPORT. The smoother and the curve tables in closed form (R160, R171, R174). -/

namespace Sys2Proof.Proofs

open Sys2Proof.Machine

/-! ## The smoother (R171) -/

theorem advance_of_rational {c : Config} (hn : c.num.carrier = .rational) (m : Smoother) :
    m.advance c = { y := m.y + c.smoothCoef * (m.t - m.y), t := m.t } := by
  rw [Smoother.advance, onePole_of_rational hn]

/-- Settles O46: every advance multiplies the distance to the target by 1 - SMOOTH_COEF. -/
theorem smootherClosedForm : Obligations.SmootherClosedForm := by
  intro c m n hn
  induction n with
  | zero => simp
  | succ n ih =>
    rw [Function.iterate_succ_apply', ih, advance_of_rational hn, Smoother.mk.injEq]
    exact ⟨by ring, rfl⟩

/-! ## The breakpoints of a table (R160) -/

/-- The breakpoints of a table lie in [0, 1]: the first is at 0 and the last at 1. -/
theorem tableShape_mem {t : Breakpoints} (h : tableShape t) {a : NUM × NUM} (ha : a ∈ t) : 0 ≤ a.1 ∧ a.1 ≤ 1 := by
  obtain ⟨-, hfirst, hlast, hrising⟩ := h
  have hne : t ≠ [] := List.ne_nil_of_mem ha
  have hle : t.Pairwise fun x y => x.1 ≤ y.1 := hrising.imp le_of_lt
  rw [List.head?_eq_some_head hne, Option.map_some, Option.some_inj] at hfirst
  rw [List.getLast?_eq_some_getLast hne, Option.map_some, Option.some_inj] at hlast
  exact ⟨hfirst ▸ hle.rel_head_of_rel_head_head ha le_rfl, hlast ▸ hle.rel_getLast_of_rel_getLast_getLast ha le_rfl⟩

/-! ## One segment of a table -/

/-- The straight line through two breakpoints. -/
def segmentAt (a b : NUM × NUM) (u : NUM) : NUM := a.2 + (b.2 - a.2) * ((u - a.1) / (b.1 - a.1))

theorem segmentAt_left (a b : NUM × NUM) : segmentAt a b a.1 = a.2 := by
  rw [segmentAt, sub_self, zero_div, mul_zero, add_zero]

theorem segmentAt_right {a b : NUM × NUM} (h : a.1 < b.1) : segmentAt a b b.1 = b.2 := by
  rw [segmentAt, div_self (sub_pos.mpr h).ne', mul_one, add_sub_cancel]

theorem lin_eq_segmentAt {n : Numerics} (hn : n.carrier = .rational) (a b : NUM × NUM) (u : NUM) :
    lin n a.2 b.2 (n.div (n.sub u a.1) (n.sub b.1 a.1)) = segmentAt a b u := by
  simp only [lin, segmentAt, Numerics.add_of_rational hn, Numerics.sub_of_rational hn, Numerics.mul_of_rational hn,
    Numerics.div_of_rational hn]

section Exact

variable {n : Numerics} (hn : n.carrier = .rational)

include hn

/-- The last segment of a table goes on for every control value. -/
theorem curveAt_pair (a b : NUM × NUM) (u : NUM) : curveAt n [a, b] u = segmentAt a b u :=
  lin_eq_segmentAt hn a b u

/-- Below its second breakpoint a table is its first segment. -/
theorem curveAt_of_lt {a b : NUM × NUM} {u : NUM} (hu : u < b.1) (post : Breakpoints) :
    curveAt n (a :: b :: post) u = segmentAt a b u := by
  cases post with
  | nil => exact curveAt_pair hn a b u
  | cons p post => exact (if_pos hu).trans (lin_eq_segmentAt hn a b u)

omit hn in
/-- From its second breakpoint on a table with more than one segment is the table without the first. -/
theorem curveAt_of_le {a b p : NUM × NUM} {u : NUM} (hu : b.1 ≤ u) (post : Breakpoints) :
    curveAt n (a :: b :: p :: post) u = curveAt n (b :: p :: post) u :=
  if_neg (not_lt.mpr hu)

/-- Up to its second breakpoint a table is its first segment: there the second one begins. -/
theorem curveAt_first {a b : NUM × NUM} {post : Breakpoints} {u : NUM}
    (hrising : (a :: b :: post).Pairwise fun x y => x.1 < y.1) (hu : u ≤ b.1) :
    curveAt n (a :: b :: post) u = segmentAt a b u := by
  obtain ⟨hab, hpost⟩ := List.pairwise_cons.mp hrising
  rcases hu.lt_or_eq with hlt | rfl
  · exact curveAt_of_lt hn hlt post
  · cases post with
    | nil => exact curveAt_pair hn a b b.1
    | cons p post =>
      have hbp : b.1 < p.1 := (List.pairwise_cons.mp hpost).1 p List.mem_cons_self
      rw [curveAt_of_le le_rfl, curveAt_of_lt hn hbp, segmentAt_left, segmentAt_right (hab b List.mem_cons_self)]

/-- A table between two neighbouring breakpoints: every segment before them is passed over. -/
theorem curveAt_between {pre post : Breakpoints} {a b : NUM × NUM} {u : NUM}
    (hrising : (pre ++ a :: b :: post).Pairwise fun x y => x.1 < y.1) (ha : a.1 ≤ u) (hb : u ≤ b.1) :
    curveAt n (pre ++ a :: b :: post) u = segmentAt a b u := by
  induction pre with
  | nil => exact curveAt_first hn hrising hb
  | cons p pre ih =>
    rw [← ih (List.pairwise_cons.mp hrising).2]
    cases pre with
    | nil => exact curveAt_of_le ha post
    | cons q pre =>
      have hqa : q.1 < a.1 := (List.pairwise_cons.mp (List.pairwise_cons.mp hrising).2).1 a (by simp)
      cases pre with
      | nil => exact curveAt_of_le (hqa.le.trans ha) _
      | cons r pre => exact curveAt_of_le (hqa.le.trans ha) _

end Exact

/-! ## The clamp of the control value -/

theorem clamp_of_le {v lo hi : NUM} (h : lo ≤ hi) (hv : v ≤ lo) : clamp v lo hi = lo := by
  unfold clamp
  split_ifs <;> linarith

theorem clamp_of_ge {v lo hi : NUM} (h : lo ≤ hi) (hv : hi ≤ v) : clamp v lo hi = hi := by
  unfold clamp
  split_ifs <;> linarith

/-- Settles O47: the control value lies between two breakpoints of the table, or the clamp brings it to an end. -/
theorem curveIsPiecewiseLinear : Obligations.CurveIsPiecewiseLinear := by
  refine fun n => ⟨fun hn t pre post a b u ht hsplit ha hb => ?_, fun t u hu => ?_, fun t u hu => ?_⟩
  · subst hsplit
    have h0 : 0 ≤ a.1 := (tableShape_mem ht (by simp)).1
    have h1 : b.1 ≤ 1 := (tableShape_mem ht (by simp)).2
    obtain ⟨-, -, -, hrising⟩ := ht
    rw [curve, clamp_of_mem (h0.trans ha) (hb.trans h1)]
    exact curveAt_between hn hrising ha hb
  · rw [← curve_clamp n t u, clamp_of_le zero_le_one hu]
  · rw [← curve_clamp n t u, clamp_of_ge zero_le_one hu]

end Sys2Proof.Proofs

/-! SUPPORT. The fan-outs to the voices (R350, R354 to R359), and the targets in agreement with the registers that feed
them (R173, R421). -/

namespace Sys2Proof.Proofs

open Sys2Proof.Machine

/-! ## The sub-commands that fan out to the voices (R354 to R359) -/

theorem paramHi_of_ne_eight {k : Fin 26} (h8 : k.val ≠ 8) : paramHi k = if k = 3 then 2 else 1 := by
  simp [paramHi, h8, Fin.ext_iff]

/-- A sub-command whose effect is one change of every voice. -/
theorem exec_voiceParam {k : Fin 26} {i : Word32 → Instr} {g : Voice → NUM → Voice} (h8 : k.val ≠ 8)
    (hi : ∀ v s, exec (i v) s = paramWith k (fun _ _ x e => e.mapVoices fun u => g u x) v s) (v : Word32) (x : NUM)
    (s : State) (hs : s.instValid = true) (hx : numOperand v 0 (if k = 3 then 2 else 1) = some x) :
    exec (i v) s = .next { s with
      eng := { s.eng with params := s.eng.params.set k x, voices := s.eng.voices.map fun u => g u x }
      rspPort := s.rspPort ++ [0x2000000000000000] } := by
  rw [hi, paramWith_of_some hs ((paramHi_of_ne_eight h8).symm ▸ hx), ok_param]
  rfl

/-- Settles O25: each of the six commands has such an effect. -/
theorem voiceFanoutParamResult : Obligations.VoiceFanoutParamResult := by
  unfold Obligations.VoiceFanoutParamResult
  simp only [List.forall_mem_cons]
  refine ⟨?_, ?_, ?_, ?_, ?_, ?_, fun p hp => absurd hp List.not_mem_nil⟩
  · exact exec_voiceParam (k := 2) (g := fun v x => { v with pwmSm := { v.pwmSm with t := x } }) (by decide)
      fun _ _ => rfl
  · exact exec_voiceParam (k := 3) (g := fun v x => { v with pwmSrc := pwmSrcOfTag (tag x 3) }) (by decide)
      fun _ _ => rfl
  · exact exec_voiceParam (k := 4) (g := fun v x => { v with osc := { v.osc with saw := { v.osc.saw with t := x } } })
      (by decide) fun _ _ => rfl
  · exact exec_voiceParam (k := 5)
      (g := fun v x => { v with osc := { v.osc with pulse := { v.osc.pulse with t := x } } }) (by decide) fun _ _ => rfl
  · exact exec_voiceParam (k := 6) (g := fun v x => { v with osc := { v.osc with sub := { v.osc.sub with t := x } } })
      (by decide) fun _ _ => rfl
  · exact exec_voiceParam (k := 7)
      (g := fun v x => { v with osc := { v.osc with noise := { v.osc.noise with t := x } } }) (by decide) fun _ _ => rfl

/-! ## Agreement with a register file

The registers are a function of the index here, so that a write is a `Function.update` and reads of it at two given
indices compute. -/

/-- The fan-out targets of a voice hold what the registers feed them. -/
structure VoiceTargets (r : Fin 26 → NUM) (v : Voice) : Prop where
  pwmSm : v.pwmSm.t = r 2
  pwmSrc : v.pwmSrc = pwmSrcOfTag (tag (r 3) 3)
  saw : v.osc.saw.t = r 4
  pulse : v.osc.pulse.t = r 5
  sub : v.osc.sub.t = r 6
  noise : v.osc.noise.t = r 7

/-- The shared smoothers are headed for what the registers feed them. -/
structure SharedTargets (r : Fin 26 → NUM) (m : SharedSm) : Prop where
  pitchMod : m.pitchMod.t = r 9
  cutoff : m.cutoff.t = r 10
  res : m.res.t = r 11
  envMod : m.envMod.t = r 12
  lfoMod : m.lfoMod.t = r 13
  kbdMod : m.kbdMod.t = r 14
  bendMod : m.bendMod.t = r 15

/-- Every fan-out target of an engine agrees with the registers. -/
structure TargetsFed (r : Fin 26 → NUM) (e : Engine) : Prop where
  voices : ∀ k : Fin 6, VoiceTargets r e.voices[k]
  sm : SharedTargets r e.sm

/-- The registers of an engine as a function of the index. -/
def registers (e : Engine) (i : Fin 26) : NUM := e.params[i]

theorem targetsAgree_iff (s : State) : s.TargetsAgree ↔ (s.instValid = true → TargetsFed (registers s.eng) s.eng) := by
  refine forall_congr' fun _ => ⟨fun ⟨hv, h9, h10, h11, h12, h13, h14, h15⟩ => ?_, fun ⟨hv, hsm⟩ => ?_⟩
  · refine ⟨fun k => ?_, h9, h10, h11, h12, h13, h14, h15⟩
    obtain ⟨h2, h3, h4, h5, h6, h7⟩ := hv k
    exact ⟨h2, h3, h4, h5, h6, h7⟩
  · refine ⟨fun k => ?_, hsm.pitchMod, hsm.cutoff, hsm.res, hsm.envMod, hsm.lfoMod, hsm.kbdMod, hsm.bendMod⟩
    have hk := hv k
    exact ⟨hk.pwmSm, hk.pwmSrc, hk.saw, hk.pulse, hk.sub, hk.noise⟩

theorem registers_setParam (e : Engine) (k : Fin 26) (x : NUM) :
    registers (e.setParam k x) = Function.update (registers e) k x := by
  funext i
  rw [registers, Engine.setParam_params, Function.update_apply, Fin.getElem_fin, Vector.getElem_set]
  simp only [registers, Fin.ext_iff, eq_comm, Fin.getElem_fin]

/-! ## One voice, and the shared smoothers -/

/-- What a block keeps of a voice includes its targets. -/
theorem VoiceTargets.of_kept {r : Fin 26 → NUM} {u v : Voice} (h : VoiceTargets r u) (hk : VoiceKept u v) :
    VoiceTargets r v :=
  ⟨hk.pwmSm.trans h.pwmSm, hk.pwmSrc.trans h.pwmSrc, hk.saw.trans h.saw, hk.pulse.trans h.pulse, hk.sub.trans h.sub,
    hk.noise.trans h.noise⟩

theorem SharedTargets.of_same {r : Fin 26 → NUM} {m m' : SharedSm} (h : SharedTargets r m) (hs : SameTargets m m') :
    SharedTargets r m' :=
  ⟨hs.pitchMod.trans h.pitchMod, hs.cutoff.trans h.cutoff, hs.res.trans h.res, hs.envMod.trans h.envMod,
    hs.lfoMod.trans h.lfoMod, hs.kbdMod.trans h.kbdMod, hs.bendMod.trans h.bendMod⟩

/-- A note-on snaps the levels to their targets and moves none (R130, R215). -/
theorem voiceTargets_strikeVoice {r : Fin 26 → NUM} {v : Voice} (h : VoiceTargets r v) (c : Config)
    (p : Vector NUM 26) (b : NUM) (n : Nat) (x : NUM) : VoiceTargets r (strikeVoice c p b n x v) :=
  ⟨h.pwmSm, h.pwmSrc, h.saw, h.pulse, h.sub, h.noise⟩

theorem voiceTargets_releaseVoice {r : Fin 26 → NUM} {v : Voice} (h : VoiceTargets r v) :
    VoiceTargets r (releaseVoice v) :=
  ⟨h.pwmSm, h.pwmSrc, h.saw, h.pulse, h.sub, h.noise⟩

theorem voiceTargets_silenceVoice {r : Fin 26 → NUM} {v : Voice} (h : VoiceTargets r v) (c : Config) :
    VoiceTargets r (silenceVoice c v) := by
  unfold silenceVoice
  split
  · exact ⟨h.pwmSm, h.pwmSrc, h.saw, h.pulse, h.sub, h.noise⟩
  · exact h

theorem voiceTargets_bendVoice {r : Fin 26 → NUM} {v : Voice} (h : VoiceTargets r v) (n : Numerics) (b : NUM) :
    VoiceTargets r (bendVoice n b v) := by
  unfold bendVoice
  split
  · exact ⟨h.pwmSm, h.pwmSrc, h.saw, h.pulse, h.sub, h.noise⟩
  · exact h

/-- A register that feeds no voice may be written. -/
theorem VoiceTargets.update {r : Fin 26 → NUM} {v : Voice} (h : VoiceTargets r v) {k : Fin 26}
    (hk : k.val < 2 ∨ 7 < k.val) (x : NUM) : VoiceTargets (Function.update r k x) v := by
  have hsame (j : Fin 26) (hj : 2 ≤ j.val ∧ j.val ≤ 7) : Function.update r k x j = r j :=
    Function.update_of_ne (by omega) _ _
  refine ⟨?_, ?_, ?_, ?_, ?_, ?_⟩
  · rw [hsame 2 (by decide), h.pwmSm]
  · rw [hsame 3 (by decide), h.pwmSrc]
  · rw [hsame 4 (by decide), h.saw]
  · rw [hsame 5 (by decide), h.pulse]
  · rw [hsame 6 (by decide), h.sub]
  · rw [hsame 7 (by decide), h.noise]

/-- A register that feeds no shared smoother may be written. -/
theorem SharedTargets.update {r : Fin 26 → NUM} {m : SharedSm} (h : SharedTargets r m) {k : Fin 26}
    (hk : k.val < 9 ∨ 15 < k.val) (x : NUM) : SharedTargets (Function.update r k x) m := by
  have hsame (j : Fin 26) (hj : 9 ≤ j.val ∧ j.val ≤ 15) : Function.update r k x j = r j :=
    Function.update_of_ne (by omega) _ _
  refine ⟨?_, ?_, ?_, ?_, ?_, ?_, ?_⟩
  · rw [hsame 9 (by decide), h.pitchMod]
  · rw [hsame 10 (by decide), h.cutoff]
  · rw [hsame 11 (by decide), h.res]
  · rw [hsame 12 (by decide), h.envMod]
  · rw [hsame 13 (by decide), h.lfoMod]
  · rw [hsame 14 (by decide), h.kbdMod]
  · rw [hsame 15 (by decide), h.bendMod]

/-! ## The engine -/

theorem targetsFed_initialEngine (c : Config) : TargetsFed (registers (initialEngine c)) (initialEngine c) :=
  ⟨forall_getElem_replicate ⟨rfl, rfl, rfl, rfl, rfl, rfl⟩, rfl, rfl, rfl, rfl, rfl, rfl, rfl⟩

section Written

variable {r : Fin 26 → NUM} {e : Engine} {k : Fin 26} (h : TargetsFed r e) (x : NUM)

include h

/-- A change of every voice that puts the value of a voice register where it is fed. -/
theorem TargetsFed.mapVoices {g : Voice → Voice} (hk : k.val < 9)
    (hg : ∀ v, VoiceTargets r v → VoiceTargets (Function.update r k x) (g v)) :
    TargetsFed (Function.update r k x) (e.mapVoices g) :=
  ⟨forall_getElem_map fun j => hg _ (h.voices j), h.sm.update (.inl hk) x⟩

/-- A change of the shared smoothers that puts the value of a shared register where it is fed. -/
theorem TargetsFed.mapSm {g : SharedSm → SharedSm} (hk : 7 < k.val)
    (hg : SharedTargets r e.sm → SharedTargets (Function.update r k x) (g e.sm)) :
    TargetsFed (Function.update r k x) (e.mapSm g) :=
  ⟨fun j => (h.voices j).update (.inr hk) x, hg h.sm⟩

/-- A register that feeds no target may be written. -/
theorem TargetsFed.update (hv : k.val < 2 ∨ 7 < k.val) (hm : k.val < 9 ∨ 15 < k.val) :
    TargetsFed (Function.update r k x) e :=
  ⟨fun j => (h.voices j).update hv x, h.sm.update hm x⟩

/-- The effect of an index writes the targets its register feeds, and no other. -/
theorem targetsFed_paramEffect (k : Fin 26) (c : Config) (old : NUM) :
    TargetsFed (Function.update r k x) (paramEffect k c old x e) := by
  unfold paramEffect
  split
  case h_1 hk =>
    obtain rfl : k = 2 := Fin.ext hk
    exact h.mapVoices x (by decide) fun v hv => ⟨rfl, hv.pwmSrc, hv.saw, hv.pulse, hv.sub, hv.noise⟩
  case h_2 hk =>
    obtain rfl : k = 3 := Fin.ext hk
    exact h.mapVoices x (by decide) fun v hv => ⟨hv.pwmSm, rfl, hv.saw, hv.pulse, hv.sub, hv.noise⟩
  case h_3 hk =>
    obtain rfl : k = 4 := Fin.ext hk
    exact h.mapVoices x (by decide) fun v hv => ⟨hv.pwmSm, hv.pwmSrc, rfl, hv.pulse, hv.sub, hv.noise⟩
  case h_4 hk =>
    obtain rfl : k = 5 := Fin.ext hk
    exact h.mapVoices x (by decide) fun v hv => ⟨hv.pwmSm, hv.pwmSrc, hv.saw, rfl, hv.sub, hv.noise⟩
  case h_5 hk =>
    obtain rfl : k = 6 := Fin.ext hk
    exact h.mapVoices x (by decide) fun v hv => ⟨hv.pwmSm, hv.pwmSrc, hv.saw, hv.pulse, rfl, hv.noise⟩
  case h_6 hk =>
    obtain rfl : k = 7 := Fin.ext hk
    exact h.mapVoices x (by decide) fun v hv => ⟨hv.pwmSm, hv.pwmSrc, hv.saw, hv.pulse, hv.sub, rfl⟩
  case h_7 hk =>
    obtain rfl : k = 9 := Fin.ext hk
    exact h.mapSm x (by decide) fun hm => ⟨rfl, hm.cutoff, hm.res, hm.envMod, hm.lfoMod, hm.kbdMod, hm.bendMod⟩
  case h_8 hk =>
    obtain rfl : k = 10 := Fin.ext hk
    exact h.mapSm x (by decide) fun hm => ⟨hm.pitchMod, rfl, hm.res, hm.envMod, hm.lfoMod, hm.kbdMod, hm.bendMod⟩
  case h_9 hk =>
    obtain rfl : k = 11 := Fin.ext hk
    exact h.mapSm x (by decide) fun hm => ⟨hm.pitchMod, hm.cutoff, rfl, hm.envMod, hm.lfoMod, hm.kbdMod, hm.bendMod⟩
  case h_10 hk =>
    obtain rfl : k = 12 := Fin.ext hk
    exact h.mapSm x (by decide) fun hm => ⟨hm.pitchMod, hm.cutoff, hm.res, rfl, hm.lfoMod, hm.kbdMod, hm.bendMod⟩
  case h_11 hk =>
    obtain rfl : k = 13 := Fin.ext hk
    exact h.mapSm x (by decide) fun hm => ⟨hm.pitchMod, hm.cutoff, hm.res, hm.envMod, rfl, hm.kbdMod, hm.bendMod⟩
  case h_12 hk =>
    obtain rfl : k = 14 := Fin.ext hk
    exact h.mapSm x (by decide) fun hm => ⟨hm.pitchMod, hm.cutoff, hm.res, hm.envMod, hm.lfoMod, rfl, hm.bendMod⟩
  case h_13 hk =>
    obtain rfl : k = 15 := Fin.ext hk
    exact h.mapSm x (by decide) fun hm => ⟨hm.pitchMod, hm.cutoff, hm.res, hm.envMod, hm.lfoMod, hm.kbdMod, rfl⟩
  case h_14 hk =>
    have hfed : TargetsFed (Function.update r k x) e := h.update x (by omega) (by omega)
    unfold effectLfoTrigMode
    split
    · exact hfed
    · exact ⟨hfed.voices, hfed.sm⟩
  case h_15 =>
    exact h.update x (by grind) (by grind)

end Written

theorem targetsFed_keep {c : Config} {e e' : Engine} (h : TargetsFed (registers e) e) (hstep : EngineStep c e e') :
    TargetsFed (registers e') e' := by
  cases hstep with
  | same => exact h
  | volume | octave => exact ⟨h.voices, h.sm⟩
  | noteOn a v vel =>
    exact ⟨forall_getElem_set (P := fun _ => VoiceTargets (registers e)) h.voices
      (voiceTargets_strikeVoice (h.voices _) _ _ _ _ _), h.sm⟩
  | noteOff n =>
    rcases noteOffEngine_cases c e n with heq | ⟨k, l, -, -, heq⟩
    · rw [heq]; exact h
    · rw [heq]
      exact ⟨forall_getElem_set (P := fun _ => VoiceTargets (registers e)) h.voices
        (voiceTargets_releaseVoice (h.voices k)), h.sm⟩
  | silence => exact ⟨forall_getElem_map fun j => voiceTargets_silenceVoice (h.voices j) c, h.sm⟩
  | bend b => exact ⟨forall_getElem_map fun j => voiceTargets_bendVoice (h.voices j) c.num _, h.sm⟩
  | param k v x hx =>
    have hfan := paramEffect_fanOut k c e.params[k] x (e.setParam k x) (numOperand_mem (paramHi_nonneg k) hx).2
    have hregisters : registers (paramEngine c k (paramEffect k) x e) = Function.update (registers e) k x := by
      rw [← registers_setParam]
      funext i
      rw [registers, paramEngine, hfan.sameRegisters.params, registers]
    rw [hregisters]
    exact targetsFed_paramEffect (e := e.setParam k x) ⟨h.voices, h.sm⟩ x k c _
  | render draws t n =>
    have hregisters : registers (renderBlock c draws t n e).eng = registers e := by rw [renderBlock_eq]; rfl
    rw [hregisters]
    exact ⟨fun k => (h.voices k).of_kept (voiceRendered_renderBlock c draws t n e k).kept,
      h.sm.of_same (sameTargets_renderBlock c draws t n e)⟩

/-- Settles O57: a target is written with its register or not at all. -/
theorem stepKeepsTargetsAgreed : Obligations.StepKeepsTargetsAgreed := by
  intro s t hs h
  rw [targetsAgree_iff] at hs ⊢
  exact step_keeps (P := fun e => TargetsFed (registers e) e) h (targetsFed_initialEngine s.cfg)
    (fun e => targetsFed_keep) hs

end Sys2Proof.Proofs

/-! SUPPORT. What one sample of an envelope can do, and how long the reference segments last (R190, R194). -/

namespace Sys2Proof.Proofs

open Sys2Proof.Machine

/-! ## One sample by the stage it begins in (R181, R190 K2, K6) -/

theorem envAdvance_attack {c : Config} {cfg : EnvCfg} {e : EnvState} (h : e.stage = .attack) :
    envAdvance c cfg e =
      { (attackSegment c cfg e).1 with stage := if (attackSegment c cfg e).2 then .decay else .attack } := by
  rw [envAdvance, h]

theorem envAdvance_decay {c : Config} {cfg : EnvCfg} {e : EnvState} (h : e.stage = .decay) :
    envAdvance c cfg e =
      if (decaySegment c cfg e).2 then { (decaySegment c cfg e).1 with stage := .sustain, level := cfg.sustain }
      else { (decaySegment c cfg e).1 with stage := .decay } := by
  rw [envAdvance, h]

theorem envAdvance_sustain {c : Config} {cfg : EnvCfg} {e : EnvState} (h : e.stage = .sustain) :
    envAdvance c cfg e = { e with level := cfg.sustain, aux := restingAux c EnvProgram.sustain cfg e } := by
  rw [envAdvance, h]

theorem envAdvance_release {c : Config} {cfg : EnvCfg} {e : EnvState} (h : e.stage = .release) :
    envAdvance c cfg e =
      if (releaseSegment c cfg e).2 then { (releaseSegment c cfg e).1 with stage := .idle, level := 0 }
      else { (releaseSegment c cfg e).1 with stage := .release } := by
  rw [envAdvance, h]

/-- What one sample does to the stage and the level of an envelope, `eps` being ENV_IDLE_EPS. -/
inductive EnvMove (eps sustain : NUM) (e e' : EnvState) : Prop
  | rest (stage : e.stage = .idle) (stage' : e'.stage = .idle) (silent : e'.level = 0)
  | rise (stage : e.stage = .attack) (stage' : e'.stage = .attack) (up : e.level ≤ e'.level) (below : e'.level < 1)
  | peak (stage : e.stage = .attack) (stage' : e'.stage = .decay) (up : e.level ≤ e'.level) (top : e'.level ≤ 1)
  | fall (stage : e.stage = .decay) (stage' : e'.stage = .decay) (was : sustain < e.level) (above : sustain < e'.level)
      (top : e'.level ≤ 1)
  | hold (stage : e.stage = .decay ∨ e.stage = .sustain) (stage' : e'.stage = .sustain) (held : e'.level = sustain)
  | fade (stage : e.stage = .release) (stage' : e'.stage = .release) (down : e'.level ≤ e.level) (above : eps < e'.level)
  | stop (stage : e.stage = .release) (stage' : e'.stage = .idle) (silent : e'.level = 0)

/-- K2 and K6 hold by the form of the advance, whatever the configuration. -/
theorem envAdvance_stage (c : Config) (cfg : EnvCfg) (e : EnvState) :
    EnvStage.Follows e.stage (envAdvance c cfg e).stage ∧
      ((envAdvance c cfg e).stage = .sustain → (envAdvance c cfg e).level = cfg.sustain) := by
  cases h : e.stage with
  | idle => rw [envAdvance_idle h]; simp [EnvStage.Follows, h]
  | attack => rw [envAdvance_attack h]; cases (attackSegment c cfg e).2 <;> simp [EnvStage.Follows]
  | decay => rw [envAdvance_decay h]; cases (decaySegment c cfg e).2 <;> simp [EnvStage.Follows]
  | sustain => rw [envAdvance_sustain h]; simp [EnvStage.Follows, h]
  | release => rw [envAdvance_release h]; cases (releaseSegment c cfg e).2 <;> simp [EnvStage.Follows]

section Exact

variable {c : Config} (hn : c.num.carrier = .rational) {cfg : EnvCfg} {e : EnvState}

include hn

theorem envStep_of_rational (t : NUM) : envStep c.num t = 1 / (t * 44100) := by
  rw [envStep, Numerics.div_of_rational hn, Numerics.mul_of_rational hn, Config.fs]

/-! ## The segments of every kernel (R181, R190 K4, K5) -/

/-- An attack does not fall, and one that has not ended is below 1. -/
theorem attackSegment_rises (hcfg : EnvAdmissible cfg) (h : e.InRange) :
    e.level ≤ (attackSegment c cfg e).1.level ∧
      ((attackSegment c cfg e).2 = false → (attackSegment c cfg e).1.level < 1) := by
  obtain ⟨-, h1, -⟩ := h
  have hstep := envStep_nonneg hn hcfg.1
  unfold attackSegment
  cases c.envKernel with
  | reference =>
    simp only [Numerics.add_of_rational hn]
    split_ifs with hl
    · exact ⟨h1, nofun⟩
    · exact ⟨le_add_of_nonneg_right hstep, fun _ => not_le.mp hl⟩
  | program k => simp

/-- A decay that has not ended was and is above the sustain level. -/
theorem decaySegment_above (hcfg : EnvAdmissible cfg) (hrun : (decaySegment c cfg e).2 = false) :
    cfg.sustain < e.level ∧ cfg.sustain < (decaySegment c cfg e).1.level := by
  have hstep := envStep_nonneg hn hcfg.2.1
  unfold decaySegment at hrun ⊢
  cases hk : c.envKernel with
  | reference =>
    simp only [hk, Numerics.sub_of_rational hn, decide_eq_false_iff_not, not_le] at hrun ⊢
    exact ⟨by linarith, hrun⟩
  | program k =>
    simp only [hk, Bool.or_eq_false_iff, decide_eq_false_iff_not, not_le] at hrun ⊢
    exact ⟨hrun.1.2, hrun.2⟩

/-- A release does not rise, and one that has not ended is above ENV_IDLE_EPS. -/
theorem releaseSegment_falls (hcfg : EnvAdmissible cfg) :
    (releaseSegment c cfg e).1.level ≤ e.level ∧
      ((releaseSegment c cfg e).2 = false → c.envIdleEps < (releaseSegment c cfg e).1.level) := by
  have hstep := envStep_nonneg hn hcfg.2.2.1
  unfold releaseSegment
  cases c.envKernel with
  | reference =>
    simp only [Numerics.sub_of_rational hn, decide_eq_false_iff_not, not_le]
    exact ⟨by linarith, id⟩
  | program k => simp

/-- What one sample can do, under every kernel. -/
theorem envAdvance_move (hcfg : EnvAdmissible cfg) (h : e.InRange) :
    EnvMove c.envIdleEps cfg.sustain e (envAdvance c cfg e) := by
  cases hs : e.stage with
  | idle =>
    rw [envAdvance_idle hs]
    exact .rest hs hs rfl
  | attack =>
    obtain ⟨hup, hbelow⟩ := attackSegment_rises hn hcfg h
    rw [envAdvance_attack hs]
    cases hend : (attackSegment c cfg e).2 with
    | false => exact .rise hs rfl hup (hbelow hend)
    | true => exact .peak hs rfl hup (attackSegment_level hn hcfg h).2
  | decay =>
    rw [envAdvance_decay hs]
    cases hend : (decaySegment c cfg e).2 with
    | false =>
      obtain ⟨hwas, habove⟩ := decaySegment_above hn hcfg hend
      exact .fall hs rfl hwas habove (decaySegment_level hn hcfg h hend).2
    | true => exact .hold (.inl hs) rfl rfl
  | sustain =>
    rw [envAdvance_sustain hs]
    exact .hold (.inr hs) hs rfl
  | release =>
    obtain ⟨hdown, habove⟩ := releaseSegment_falls hn hcfg (e := e)
    rw [envAdvance_release hs]
    cases hend : (releaseSegment c cfg e).2 with
    | false => exact .fade hs rfl hdown (habove hend)
    | true => exact .stop hs rfl rfl

/-! ## The reference segments, sample after sample (R194) -/

/-- A reference attack that goes on has climbed by one step. -/
theorem envAdvance_attack_reference (hk : c.envKernel = .reference) (h : e.stage = .attack)
    (h' : (envAdvance c cfg e).stage = .attack) :
    (envAdvance c cfg e).level = e.level + 1 / (cfg.attackS * 44100) ∧ (envAdvance c cfg e).level < 1 := by
  rw [envAdvance_attack h] at h' ⊢
  simp only [attackSegment, hk, Numerics.add_of_rational hn, envStep_of_rational hn] at h' ⊢
  by_cases hl : 1 ≤ e.level + 1 / (cfg.attackS * 44100)
  · rw [if_pos hl] at h'
    cases h'
  · rw [if_neg hl]
    exact ⟨rfl, not_le.mp hl⟩

/-- A reference release that goes on has fallen by one step. -/
theorem envAdvance_release_reference (hk : c.envKernel = .reference) (h : e.stage = .release)
    (h' : (envAdvance c cfg e).stage ≠ .idle) :
    (envAdvance c cfg e).stage = .release ∧ (envAdvance c cfg e).level = e.level - 1 / (cfg.releaseS * 44100) ∧
      c.envIdleEps < (envAdvance c cfg e).level := by
  rw [envAdvance_release h] at h' ⊢
  simp only [releaseSegment, hk, Numerics.sub_of_rational hn, envStep_of_rational hn, decide_eq_true_eq] at h' ⊢
  split_ifs at h' ⊢ with hl
  · exact absurd rfl h'
  · exact ⟨rfl, rfl, not_le.mp hl⟩

omit hn in
theorem envCourse_succ (c : Config) (e : EnvState) (cfg : Nat → EnvCfg) (n : Nat) :
    envCourse c e cfg (n + 1) = envAdvance c (cfg n) (envCourse c e cfg n) := rfl

omit hn in
theorem envCourse_const (c : Config) (e : EnvState) (cfg : EnvCfg) (n : Nat) :
    envCourse c e (fun _ => cfg) n = (envAdvance c cfg)^[n] e := by
  induction n with
  | zero => rfl
  | succ n ih => rw [envCourse_succ, ih, Function.iterate_succ_apply']

variable (hk : c.envKernel = .reference) {course : Nat → EnvCfg}

include hk

/-- A reference attack of one attack time climbs by the same step in every sample. -/
theorem envCourse_attack {t : NUM} (hcourse : ∀ n, (course n).attackS = t) {N : Nat}
    (hstay : ∀ n ≤ N, (envCourse c e course n).stage = .attack) :
    ∀ n ≤ N, (envCourse c e course n).level = e.level + n * (1 / (t * 44100)) := by
  intro n hn'
  induction n with
  | zero => simp [envCourse, stateAfter]
  | succ n ih =>
    obtain ⟨hlevel, -⟩ := envAdvance_attack_reference hn hk (cfg := course n) (hstay n (by omega)) (hstay (n + 1) hn')
    rw [envCourse_succ, hlevel, ih (by omega), hcourse]
    push_cast
    ring

/-- A reference release falls by at least the step of the longest release time in every sample. -/
theorem envCourse_release {most : NUM} (hcourse : ∀ n, 0 < (course n).releaseS ∧ (course n).releaseS ≤ most)
    (he : e.stage = .release) {N : Nat} (hstay : ∀ n ≤ N, (envCourse c e course n).stage ≠ .idle) :
    ∀ n ≤ N, (envCourse c e course n).stage = .release ∧
      (envCourse c e course n).level ≤ e.level - n * (1 / (most * 44100)) := by
  intro n hn'
  induction n with
  | zero => simp [envCourse, stateAfter, he]
  | succ n ih =>
    obtain ⟨hstage, hlevel⟩ := ih (by omega)
    obtain ⟨hstage', hlevel', -⟩ := envAdvance_release_reference hn hk (cfg := course n) hstage (hstay (n + 1) hn')
    have hstep : 1 / (most * 44100) ≤ 1 / ((course n).releaseS * 44100) := by
      have := (hcourse n).1
      have := (hcourse n).2
      gcongr
    rw [envCourse_succ]
    refine ⟨hstage', ?_⟩
    rw [hlevel']
    push_cast
    linarith

/-- A reference release is over once the steps of the longest release time add up to its level. -/
theorem envCourse_release_ends {most : NUM} (hcourse : ∀ n, 0 < (course n).releaseS ∧ (course n).releaseS ≤ most)
    (heps : 0 ≤ c.envIdleEps) (he : e.stage = .release) {N : Nat} (hN : e.level * most * 44100 ≤ N) :
    ∃ n ≤ N + 1, (envCourse c e course n).stage = .idle := by
  by_contra! hstay
  have hmost : 0 < most := (hcourse 0).1.trans_le (hcourse 0).2
  obtain ⟨hstage, hlevel⟩ := envCourse_release hn hk hcourse he hstay N (by omega)
  obtain ⟨-, hlevel', habove⟩ :=
    envAdvance_release_reference hn hk (cfg := course N) hstage (hstay (N + 1) le_rfl)
  have hsum : e.level ≤ N * (1 / (most * 44100)) := by
    rw [mul_one_div, le_div_iff₀ (by positivity), ← mul_assoc]
    exact hN
  have hstep : 0 < 1 / ((course N).releaseS * 44100) := by
    have := (hcourse N).1
    positivity
  linarith

/-- A reference attack of 0.001 s takes 45 samples. -/
theorem envCourse_attack_ends (hcourse : ∀ n, (course n).attackS = 1 / 1000) (h0 : 0 ≤ e.level) :
    ∃ n ≤ 45, (envCourse c e course n).stage ≠ .attack := by
  by_contra! hstay
  have hlevel := envCourse_attack hn hk hcourse hstay 45 le_rfl
  obtain ⟨-, hbelow⟩ :=
    envAdvance_attack_reference hn hk (cfg := course 44) (hstay 44 (by norm_num)) (hstay 45 le_rfl)
  rw [← envCourse_succ, hlevel] at hbelow
  norm_num at hbelow
  linarith

end Exact

/-- A sample keeps the level in [0, 1], and at 0 in Idle. -/
theorem EnvMove.inRange {eps sustain : NUM} {e e' : EnvState} (h : EnvMove eps sustain e e') (heps : 0 ≤ eps)
    (hsus : 0 ≤ sustain ∧ sustain ≤ 1) (he : e.InRange) : e'.InRange := by
  obtain ⟨h0, h1, -⟩ := he
  cases h with
  | rest _ _ silent | stop _ _ silent => exact ⟨silent.ge, by rw [silent]; exact zero_le_one, fun _ => silent⟩
  | rise _ stage' up below => exact ⟨h0.trans up, below.le, by simp [stage']⟩
  | peak _ stage' up top => exact ⟨h0.trans up, top, by simp [stage']⟩
  | fall _ stage' _ above top => exact ⟨hsus.1.trans above.le, top, by simp [stage']⟩
  | hold _ stage' held => exact ⟨held ▸ hsus.1, held ▸ hsus.2, by simp [stage']⟩
  | fade _ stage' down above => exact ⟨heps.trans above.le, down.trans h1, by simp [stage']⟩

theorem EnvMove.attack_rises {eps sustain : NUM} {e e' : EnvState} (h : EnvMove eps sustain e e')
    (hs : e.stage = .attack) : e.level ≤ e'.level := by
  cases h with
  | rise _ _ up | peak _ _ up => exact up
  | hold stage => simp [hs] at stage
  | rest stage | fall stage | fade stage | stop stage => simp [hs] at stage

theorem EnvMove.release_falls {eps sustain : NUM} {e e' : EnvState} (h : EnvMove eps sustain e e') (h0 : 0 ≤ e.level)
    (hs : e.stage = .release) : e'.level ≤ e.level := by
  cases h with
  | fade _ _ down => exact down
  | stop _ _ silent => exact silent ▸ h0
  | hold stage => simp [hs] at stage
  | rest stage | rise stage | peak stage | fall stage => simp [hs] at stage

/-- An envelope left in Attack, Decay or Release has not reached the end of its segment. -/
theorem EnvMove.unfinished {eps sustain : NUM} {e e' : EnvState} (h : EnvMove eps sustain e e') :
    (e'.stage = .attack → e'.level < 1) ∧
      (e'.stage = .decay → e.stage = .decay → sustain < e.level ∧ sustain < e'.level) ∧
      (e'.stage = .release → eps < e'.level) := by
  cases h with
  | rest _ stage' | stop _ stage' | hold _ stage' => simp [stage']
  | rise _ stage' _ below => simp [stage', below]
  | peak stage stage' => simp [stage, stage']
  | fall _ stage' was above => simp [stage', was, above]
  | fade _ stage' _ above => simp [stage', above]

/-- Settles O43: the first part case by case over what a sample can do, the second by the steps of the reference
release. -/
theorem envelopeAdvanceConstraints : Obligations.EnvelopeAdvanceConstraints := by
  refine fun c cfg e hn heps => ⟨fun hcfg he => ?_, fun hk hrel hs h0 => ?_⟩
  · have hmove := envAdvance_move hn hcfg he
    obtain ⟨hfollows, hsustain⟩ := envAdvance_stage c cfg e
    exact ⟨hfollows, hmove.inRange heps hcfg.2.2.2 he, hmove.attack_rises, hmove.release_falls he.1, hsustain,
      hmove.unfinished⟩
  · simp only [← envCourse_const]
    exact envCourse_release_ends hn hk (most := cfg.releaseS) (fun _ => ⟨hrel, le_rfl⟩) heps hs (Nat.le_ceil _)

end Sys2Proof.Proofs

/-! SUPPORT. The reference oscillator (R220, R221): its phase turns by the same part of a cycle in every sample, so
its waveforms repeat after whole cycles and no sooner. -/

namespace Sys2Proof.Proofs

open Sys2Proof.Machine

/-! ## A phase that turns evenly -/

/-- The phase from `q`, not brought into the cycle, after `j` turns by `a` of a cycle. -/
def turned (q a : NUM) (j : Nat) : NUM := q + j * a

theorem turned_succ (q a : NUM) (j : Nat) : turned q a (j + 1) = turned q a j + a := by
  unfold turned
  push_cast
  ring

theorem turned_add (q a : NUM) (i n : Nat) : turned q a (i + n) = turned q a i + n * a := by
  unfold turned
  push_cast
  ring

/-- After a number of samples that is no whole number of cycles the phase is another. -/
theorem fract_turned_ne {q a : NUM} {n : Nat} (hn : Int.fract (n * a) ≠ 0) (i : Nat) :
    Int.fract (turned q a (i + n)) ≠ Int.fract (turned q a i) := by
  intro heq
  obtain ⟨z, hz⟩ := Int.fract_eq_fract.mp heq
  rw [turned_add, add_sub_cancel_left] at hz
  exact hn (by rw [hz, Int.fract_intCast])

/-- The phase goes up by the part of a cycle that is turned, or by one cycle less. -/
theorem fract_turned_add (q a : NUM) (i n : Nat) :
    Int.fract (turned q a (i + n)) = Int.fract (turned q a i) + Int.fract (n * a) ∨
      Int.fract (turned q a (i + n)) = Int.fract (turned q a i) + Int.fract (n * a) - 1 := by
  rw [turned_add]
  obtain ⟨z, hz⟩ := Int.fract_add (turned q a i) (n * a)
  have h0 := Int.fract_nonneg (turned q a i)
  have h1 := Int.fract_lt_one (turned q a i)
  have h0' := Int.fract_nonneg (n * a)
  have h1' := Int.fract_lt_one (n * a)
  have hs0 := Int.fract_nonneg (turned q a i + n * a)
  have hs1 := Int.fract_lt_one (turned q a i + n * a)
  have hz1 : (z : NUM) < 1 := by linarith
  have hz2 : (-2 : NUM) < z := by linarith
  have hz1' : z < 1 := by exact_mod_cast hz1
  have hz2' : -2 < z := by exact_mod_cast hz2
  obtain rfl | rfl : z = 0 ∨ z = -1 := by omega
  · left; push_cast at hz; linarith
  · right; push_cast at hz; linarith

/-- A rational turn brings the phase back after as many samples as its denominator says. -/
theorem fract_turned_periodic (q a : NUM) : Function.Periodic (fun j => Int.fract (turned q a j)) a.den := by
  intro j
  simp only
  rw [turned_add, mul_comm, Rat.mul_den_eq_num, Int.fract_add_intCast]

/-- A periodic sequence has a least value, and takes it ever again. -/
theorem exists_least_of_periodic {w : Nat → NUM} {p : Nat} (hp : 0 < p) (hw : Function.Periodic w p) (i0 : Nat) :
    ∃ i, i0 ≤ i ∧ ∀ j, w i ≤ w j := by
  obtain ⟨i, -, hi⟩ := Finset.exists_min_image (Finset.range p) w ⟨0, Finset.mem_range.mpr hp⟩
  refine ⟨i + i0 * p, by nlinarith, fun j => ?_⟩
  have hback : w (i + i0 * p) = w i := by simpa using hw.nat_mul i0 i
  rw [hback, ← hw.map_mod_nat j]
  exact hi _ (Finset.mem_range.mpr (Nat.mod_lt _ hp))

theorem exists_least_phase (q a : NUM) (i0 : Nat) :
    ∃ i, i0 ≤ i ∧ ∀ j, Int.fract (turned q a i) ≤ Int.fract (turned q a j) :=
  exists_least_of_periodic a.den_pos (fract_turned_periodic q a) i0

theorem exists_greatest_phase (q a : NUM) (i0 : Nat) :
    ∃ i, i0 ≤ i ∧ ∀ j, Int.fract (turned q a j) ≤ Int.fract (turned q a i) := by
  obtain ⟨i, hi0, hi⟩ := exists_least_of_periodic (w := fun j => -Int.fract (turned q a j)) a.den_pos
    (fun j => congrArg Neg.neg (fract_turned_periodic q a j)) i0
  exact ⟨i, hi0, fun j => neg_le_neg_iff.mp (hi j)⟩

/-! ## Pulse waves -/

/-- A pulse that is ever again on and ever again off does not repeat but after whole cycles. Else the least phase, which
is on, and the greatest one, which is off, would both stay so when they are turned, the greatest to below the least. -/
theorem pulse_turned_ne {q a width : NUM} (hon : ∃ i, Int.fract (turned q a i) < width)
    (hoff : ∃ i, width ≤ Int.fract (turned q a i)) {n : Nat} (hn : Int.fract (n * a) ≠ 0) (i0 : Nat) :
    ∃ i, i0 ≤ i ∧ ¬(Int.fract (turned q a (i + n)) < width ↔ Int.fract (turned q a i) < width) := by
  by_contra! hrep
  obtain ⟨i, hi0, hleast⟩ := exists_least_phase q a i0
  obtain ⟨j, hj0, hgreatest⟩ := exists_greatest_phase q a i0
  obtain ⟨on, hon⟩ := hon
  obtain ⟨off, hoff⟩ := hoff
  have hpos : 0 < Int.fract (n * a) := lt_of_le_of_ne (Int.fract_nonneg _) hn.symm
  have hlt := Int.fract_lt_one (n * a)
  have hi := (hrep i hi0).mpr ((hleast on).trans_lt hon)
  have hj := mt (hrep j hj0).mp (not_lt.mpr (hoff.trans (hgreatest off)))
  have hup : Int.fract (turned q a (i + n)) = Int.fract (turned q a i) + Int.fract (n * a) := by
    refine (fract_turned_add q a i n).resolve_right fun h => ?_
    linarith [hleast (i + n)]
  have hdown : Int.fract (turned q a (j + n)) = Int.fract (turned q a j) + Int.fract (n * a) - 1 := by
    refine (fract_turned_add q a j n).resolve_left fun h => ?_
    linarith [hgreatest (j + n)]
  linarith [Int.fract_nonneg (turned q a i), Int.fract_lt_one (turned q a j)]

/-- Two samples of a pulse are the same only when both are on or both are off. -/
theorem iff_of_pulse_eq {p q : Prop} [Decidable p] [Decidable q]
    (h : (if p then 1 else -1 : NUM) = if q then 1 else -1) : p ↔ q := by
  split_ifs at h with hp hq hq
  · exact iff_of_true hp hq
  · norm_num at h
  · norm_num at h
  · exact iff_of_false hp hq

/-- At less than half a cycle per sample some phase is below a third of the cycle and some is at two thirds or above. -/
theorem exists_phase_both_sides (q : NUM) {a : NUM} (ha0 : 0 < a) (ha : a < 1 / 2) :
    (∃ i, Int.fract (turned q a i) < 1 / 3) ∧ ∃ i, 2 / 3 ≤ Int.fract (turned q a i) := by
  obtain ⟨i, -, hleast⟩ := exists_least_phase q a 0
  obtain ⟨j, -, hgreatest⟩ := exists_greatest_phase q a 0
  have hpart {n : Nat} (h : (n : NUM) * a < 1) : Int.fract (n * a) = n * a := Int.fract_eq_self.mpr ⟨by positivity, h⟩
  have hlast := fract_turned_add q a j 1
  have hfirst := fract_turned_add q a i 2
  rw [hpart (by push_cast; linarith)] at hlast hfirst
  push_cast at hlast hfirst
  have hlast := hlast.resolve_left fun h => by linarith [hgreatest (j + 1)]
  have hfirst := hfirst.resolve_right fun h => by linarith [hleast (i + 2)]
  rcases lt_or_ge a (1 / 3) with hsmall | hlarge
  · exact ⟨⟨j + 1, by linarith [Int.fract_lt_one (turned q a j)]⟩,
      ⟨j, by linarith [Int.fract_nonneg (turned q a (j + 1))]⟩⟩
  · exact ⟨⟨i, by linarith [Int.fract_lt_one (turned q a (i + 2))]⟩,
      ⟨i + 2, by linarith [Int.fract_nonneg (turned q a i)]⟩⟩

/-! ## Square waves of half the frequency -/

/-- Where the parity of the cycles gone by repeats after `n` samples, these hold a whole even number of cycles. Else the
cycles counted in `k` times `n` samples, `k` times one even number, would leave the true count behind. -/
theorem cycles_of_parity {q a : NUM} {n i0 : Nat}
    (hrep : ∀ i, i0 ≤ i → Even (⌊turned q a (i + n)⌋ - ⌊turned q a i⌋)) : ∃ d : Int, Even d ∧ (n : NUM) * a = d := by
  have hcount (i : Nat) : ⌊(n : NUM) * a⌋ ≤ ⌊turned q a (i + n)⌋ - ⌊turned q a i⌋ ∧
      ⌊turned q a (i + n)⌋ - ⌊turned q a i⌋ ≤ ⌊(n : NUM) * a⌋ + 1 := by
    rw [turned_add]
    have hlo := Int.le_floor_add (turned q a i) (n * a)
    have hhi := Int.le_floor_add_floor (turned q a i) (n * a)
    omega
  obtain ⟨d, hd, heven⟩ : ∃ d : Int, (∀ i, i0 ≤ i → ⌊turned q a (i + n)⌋ - ⌊turned q a i⌋ = d) ∧ Even d := by
    refine ⟨_, fun i hi => ?_, hrep i0 le_rfl⟩
    have h0 := hcount i0
    have hi' := hcount i
    obtain ⟨x, hx⟩ := hrep i0 le_rfl
    obtain ⟨y, hy⟩ := hrep i hi
    omega
  refine ⟨d, heven, ?_⟩
  have hfloor (k : Nat) : ⌊turned q a (i0 + k * n)⌋ = ⌊turned q a i0⌋ + k * d := by
    induction k with
    | zero => simp
    | succ k ih =>
      have hstep := hd (i0 + k * n) (by omega)
      rw [add_assoc, ← Nat.succ_mul] at hstep
      push_cast
      rw [show k + 1 = k.succ from rfl]
      linarith
  have hdrift (k : Nat) : |k * ((n : NUM) * a - d)| < 2 := by
    have hlo := Int.floor_le (turned q a (i0 + k * n))
    have hhi := Int.lt_floor_add_one (turned q a (i0 + k * n))
    have hlo0 := Int.floor_le (turned q a i0)
    have hhi0 := Int.lt_floor_add_one (turned q a i0)
    rw [hfloor, turned_add] at hlo hhi
    push_cast at hlo hhi
    rw [abs_lt]
    constructor <;> linarith
  by_contra hne
  have hpos : 0 < |(n : NUM) * a - d| := abs_pos.mpr (sub_ne_zero.mpr hne)
  obtain ⟨k, hk⟩ := exists_nat_gt (2 / |(n : NUM) * a - d|)
  have hlt := hdrift k
  rw [abs_mul, Nat.abs_cast] at hlt
  exact absurd ((div_lt_iff₀ hpos).mp hk) hlt.not_gt

/-! ## Waveforms by the turns of the phase (R220 K2) -/

theorem repeats_of_whole_turns {f : NUM} {w : Nat → NUM}
    (h : ∀ n m : Nat, (n : NUM) * (f / Config.fs) = m → ∀ i, w (i + n) = w i) : Repeats f w := by
  refine fun n m hnm => ⟨0, fun i _ => h n m ?_ i⟩
  have hfs : Config.fs ≠ 0 := by norm_num [Config.fs]
  rw [mul_div_assoc', hnm, mul_div_cancel_right₀ _ hfs]

theorem repeatsNoSooner_of_broken_turns {f : NUM} {w : Nat → NUM}
    (h : ∀ n : Nat, Int.fract ((n : NUM) * (f / Config.fs)) ≠ 0 → ∀ i0, ∃ i, i0 ≤ i ∧ w (i + n) ≠ w i) :
    RepeatsNoSooner f w := by
  intro n hlo _
  rw [mul_div_assoc] at hlo
  exact h n (by linarith)

theorem signNum_ne_zero (x : Sign) : signNum x ≠ 0 := by cases x <;> norm_num [signNum]

theorem signNum_flipSign (x : Sign) : signNum (flipSign x) = -signNum x := by cases x <;> norm_num [signNum, flipSign]

section Reference

variable {c : Config} (hn : c.num.carrier = .rational) (hk : c.oscKernel = .reference) {o : OscState}
  (ho : 0 ≤ o.phase ∧ o.phase < 1) (f pwm draw : NUM)

/-- The width of the pulse, as a part of the cycle (R222). -/
def pulseWidth (c : Config) (pwm : NUM) : NUM := c.pwCentre + c.pwSpan * pwm

include hn hk

theorem oscAdvance_phase (o : OscState) : (oscAdvance c o f pwm draw).phase = Int.fract (o.phase + f / Config.fs) := by
  simp only [oscAdvance, hk, frac, Numerics.sub_of_rational hn, Numerics.add_of_rational hn,
    Numerics.div_of_rational hn]
  rfl

theorem oscAdvance_subSign (o : OscState) :
    (oscAdvance c o f pwm draw).subSign = if 1 ≤ o.phase + f / Config.fs then flipSign o.subSign else o.subSign := by
  simp only [oscAdvance, hk, Numerics.add_of_rational hn, Numerics.div_of_rational hn]

include ho

theorem oscAdvance_iterate_phase (j : Nat) :
    ((fun o => oscAdvance c o f pwm draw)^[j] o).phase = Int.fract (turned o.phase (f / Config.fs) j) := by
  induction j with
  | zero => simpa [turned] using (Int.fract_eq_self.mpr ho).symm
  | succ j ih =>
    rw [Function.iterate_succ_apply', oscAdvance_phase hn hk, ih, turned_succ]
    exact Int.fract_eq_fract.mpr ⟨-⌊turned o.phase (f / Config.fs) j⌋, by rw [Int.fract]; push_cast; ring⟩

/-- Below the sample rate the sign flips once in every cycle. -/
theorem oscAdvance_iterate_subSign (hf0 : 0 ≤ f) (hf : f < Config.fs) (j : Nat) :
    signNum ((fun o => oscAdvance c o f pwm draw)^[j] o).subSign =
      signNum o.subSign * (-1) ^ ⌊turned o.phase (f / Config.fs) j⌋ := by
  have hfs : 0 < Config.fs := by norm_num [Config.fs]
  have ha0 : 0 ≤ f / Config.fs := div_nonneg hf0 hfs.le
  have ha1 : f / Config.fs < 1 := (div_lt_one hfs).mpr hf
  induction j with
  | zero => simp [turned, Int.floor_eq_zero_iff.mpr ho]
  | succ j ih =>
    rw [Function.iterate_succ_apply', oscAdvance_subSign hn hk, oscAdvance_iterate_phase hn hk ho, turned_succ]
    have hfract := Int.self_sub_floor (turned o.phase (f / Config.fs) j)
    have hlt := Int.fract_lt_one (turned o.phase (f / Config.fs) j)
    have hge := Int.fract_nonneg (turned o.phase (f / Config.fs) j)
    split_ifs with hwrap
    · have hfloor : ⌊turned o.phase (f / Config.fs) j + f / Config.fs⌋ = ⌊turned o.phase (f / Config.fs) j⌋ + 1 :=
        Int.floor_eq_iff.mpr ⟨by push_cast; linarith, by push_cast; linarith⟩
      rw [signNum_flipSign, ih, hfloor, zpow_add₀ (by norm_num), zpow_one]
      ring
    · have hfloor : ⌊turned o.phase (f / Config.fs) j + f / Config.fs⌋ = ⌊turned o.phase (f / Config.fs) j⌋ :=
        Int.floor_eq_iff.mpr ⟨by linarith, by linarith⟩
      rw [ih, hfloor]

theorem oscWave_saw (j : Nat) :
    (oscWave c o f pwm draw j).saw = 2 * Int.fract (turned o.phase (f / Config.fs) j) - 1 := by
  simp only [oscWave, oscWaves, hk, Numerics.sub_of_rational hn, Numerics.mul_of_rational hn,
    oscAdvance_iterate_phase hn hk ho]

theorem oscWave_pulse (j : Nat) :
    (oscWave c o f pwm draw j).pulse =
      if Int.fract (turned o.phase (f / Config.fs) j) < pulseWidth c pwm then 1 else -1 := by
  simp only [oscWave, oscWaves, hk, Numerics.add_of_rational hn, Numerics.mul_of_rational hn]
  exact if_congr (by rw [oscAdvance_iterate_phase hn hk ho, pulseWidth]) rfl rfl

theorem oscWave_sub (hf0 : 0 ≤ f) (hf : f < Config.fs) (j : Nat) :
    (oscWave c o f pwm draw j).sub = signNum o.subSign * (-1) ^ ⌊turned o.phase (f / Config.fs) j⌋ := by
  rw [← oscAdvance_iterate_subSign hn hk ho f pwm draw hf0 hf]
  simp only [oscWave, oscWaves, hk]

theorem oscWave_saw_repeats : Repeats f fun j => (oscWave c o f pwm draw j).saw :=
  repeats_of_whole_turns fun n m hm i => by
    simp only [oscWave_saw hn hk ho, turned_add, hm, Int.fract_add_natCast]

theorem oscWave_pulse_repeats : Repeats f fun j => (oscWave c o f pwm draw j).pulse :=
  repeats_of_whole_turns fun n m hm i => by
    simp only [oscWave_pulse hn hk ho, turned_add, hm, Int.fract_add_natCast]

theorem oscWave_sub_repeats (hf0 : 0 ≤ f) (hf : f < Config.fs) :
    Repeats (f / 2) fun j => (oscWave c o f pwm draw j).sub :=
  repeats_of_whole_turns fun n m hm i => by
    have hturns : (n : NUM) * (f / Config.fs) = (2 * m : Nat) := by push_cast; rw [← hm]; ring
    have heven : Even ((2 * m : Nat) : Int) := by simp
    simp only [oscWave_sub hn hk ho f pwm draw hf0 hf, turned_add, hturns, Int.floor_add_natCast]
    rw [zpow_add₀ (by norm_num), heven.neg_one_zpow, mul_one]

theorem oscWave_saw_noSooner : RepeatsNoSooner f fun j => (oscWave c o f pwm draw j).saw :=
  repeatsNoSooner_of_broken_turns fun n hbroken i0 => by
    refine ⟨i0, le_rfl, fun heq => fract_turned_ne hbroken i0 (q := o.phase) ?_⟩
    simp only [oscWave_saw hn hk ho] at heq
    linarith

theorem oscWave_sub_noSooner (hf0 : 0 ≤ f) (hf : f < Config.fs) :
    RepeatsNoSooner (f / 2) fun j => (oscWave c o f pwm draw j).sub :=
  repeatsNoSooner_of_broken_turns fun n hbroken i0 => by
    by_contra! hrep
    have hparity (i : Nat) (hi : i0 ≤ i) :
        Even (⌊turned o.phase (f / Config.fs) (i + n)⌋ - ⌊turned o.phase (f / Config.fs) i⌋) := by
      have heq := hrep i hi
      simp only [oscWave_sub hn hk ho f pwm draw hf0 hf] at heq
      have hpow := mul_left_cancel₀ (signNum_ne_zero _) heq
      have hne : ((-1 : NUM) ^ ⌊turned o.phase (f / Config.fs) i⌋) ≠ 0 := zpow_ne_zero _ (by norm_num)
      rw [← div_eq_one_iff_eq hne, ← zpow_sub₀ (by norm_num)] at hpow
      by_contra hodd
      rw [(Int.not_even_iff_odd.mp hodd).neg_one_zpow] at hpow
      norm_num at hpow
    obtain ⟨d, ⟨m, hm⟩, hturns⟩ := cycles_of_parity hparity
    refine hbroken (Int.fract_eq_iff.mpr ⟨le_rfl, zero_lt_one, m, ?_⟩)
    rw [hm] at hturns
    push_cast at hturns
    linear_combination hturns / 2

/-- A pulse that is at some time on and at some time off. -/
theorem oscWave_pulse_noSooner
    (hon : ∃ i, Int.fract (turned o.phase (f / Config.fs) i) < pulseWidth c pwm)
    (hoff : ∃ i, pulseWidth c pwm ≤ Int.fract (turned o.phase (f / Config.fs) i)) :
    RepeatsNoSooner f fun j => (oscWave c o f pwm draw j).pulse :=
  repeatsNoSooner_of_broken_turns fun n hbroken i0 => by
    obtain ⟨i, hi, hne⟩ := pulse_turned_ne hon hoff hbroken i0
    refine ⟨i, hi, fun heq => hne ?_⟩
    simp only [oscWave_pulse hn hk ho] at heq
    exact iff_of_pulse_eq heq

/-- A pulse has the frequency of the phase, or it is constant. -/
theorem oscWave_pulse_noSooner_or_const :
    RepeatsNoSooner f (fun j => (oscWave c o f pwm draw j).pulse) ∨
      ∃ (i0 : Nat) (v : NUM), ∀ i, i0 ≤ i → (oscWave c o f pwm draw i).pulse = v := by
  by_cases hon : ∃ i, Int.fract (turned o.phase (f / Config.fs) i) < pulseWidth c pwm
  · by_cases hoff : ∃ i, pulseWidth c pwm ≤ Int.fract (turned o.phase (f / Config.fs) i)
    · exact .inl (oscWave_pulse_noSooner hn hk ho f pwm draw hon hoff)
    · push Not at hoff
      exact .inr ⟨0, 1, fun i _ => by rw [oscWave_pulse hn hk ho, if_pos (hoff i)]⟩
  · push Not at hon
    exact .inr ⟨0, -1, fun i _ => by rw [oscWave_pulse hn hk ho, if_neg (hon i).not_gt]⟩

end Reference

/-! ## The rules of the reference oscillator -/

theorem oscReset_phase (c : Config) (o : OscState) : (oscReset c o).phase = 0 := rfl

/-- The waveforms see nothing of the levels, so a phase within the cycle bounds them. -/
theorem oscWaves_le_of_phase {c : Config} (hn : c.num.carrier = .rational) {o : OscState}
    (ho : 0 ≤ o.phase ∧ o.phase < 1) {d : NUM} (hd : -1 ≤ d ∧ d ≤ 1) (pwm : NUM) :
    |(oscWaves c o pwm d).saw| ≤ 1 ∧ |(oscWaves c o pwm d).pulse| ≤ 1 ∧ |(oscWaves c o pwm d).sub| ≤ 1 ∧
      |(oscWaves c o pwm d).noise| ≤ 1 := by
  have hzero : Smoother.zero.InUnit := inUnit_atRest le_rfl zero_le_one
  exact oscWaves_le hn (o := { o with saw := .zero, pulse := .zero, sub := .zero, noise := .zero })
    ⟨hzero, hzero, hzero, hzero, ho⟩ hd pwm

section Exact

variable {c : Config} (hr : c.MeetsRules) (hn : c.num.carrier = .rational) (hk : c.oscKernel = .reference)

include hn hk

theorem reachable_phase {o o' : OscState} (h : Reachable (OscNext c) (oscReset c o) o') : 0 ≤ o'.phase ∧ o'.phase < 1 := by
  induction h with
  | refl => exact ⟨le_rfl, zero_lt_one⟩
  | tail _ hnext _ =>
    obtain ⟨f, pwm, draw, -, -, rfl⟩ := hnext
    rw [oscAdvance_phase hn hk]
    exact ⟨Int.fract_nonneg _, Int.fract_lt_one _⟩

include hr

omit hn in
/-- Some PWM-mod value of [0, 1] makes the pulse between a third and two thirds of a cycle wide. -/
theorem exists_middle_width : ∃ pwm, (0 ≤ pwm ∧ pwm ≤ 1) ∧ 1 / 3 ≤ pulseWidth c pwm ∧ pulseWidth c pwm ≤ 2 / 3 := by
  obtain ⟨hspan, hlo, hhi⟩ := hr.osc_width hk
  obtain ⟨width, ⟨hmin, hmax⟩, hthirds⟩ : ∃ width, (min c.pwCentre (c.pwCentre + c.pwSpan) ≤ width ∧
      width ≤ max c.pwCentre (c.pwCentre + c.pwSpan)) ∧ 1 / 3 ≤ width ∧ width ≤ 2 / 3 :=
    ⟨_, ⟨le_max_left _ (1 / 3), max_le min_le_max hhi⟩, le_max_right _ _, max_le hlo (by norm_num)⟩
  have hwidth : pulseWidth c ((width - c.pwCentre) / c.pwSpan) = width := by
    rw [pulseWidth, mul_div_cancel₀ _ hspan, add_sub_cancel]
  refine ⟨(width - c.pwCentre) / c.pwSpan, ?_, ?_⟩
  · rcases hspan.lt_or_gt with hneg | hpos
    · rw [min_eq_right (by linarith)] at hmin
      rw [max_eq_left (by linarith)] at hmax
      exact ⟨div_nonneg_of_nonpos (by linarith) hneg.le, (div_le_one_of_neg hneg).mpr (by linarith)⟩
    · rw [min_eq_left (by linarith)] at hmin
      rw [max_eq_right (by linarith)] at hmax
      exact ⟨div_nonneg (by linarith) hpos.le, (div_le_one hpos).mpr (by linarith)⟩
  · rwa [hwidth]

omit hn in
/-- Some phase of the cycle is within the pulse at one of the PWM-mod values 0 and 1 and past it at the other. -/
theorem exists_phase_between_widths : ∃ q, (0 ≤ q ∧ q < 1) ∧ ¬(q < pulseWidth c 0 ↔ q < pulseWidth c 1) := by
  obtain ⟨hspan, hlo, hhi⟩ := hr.osc_width hk
  have hmin : min c.pwCentre (c.pwCentre + c.pwSpan) < max c.pwCentre (c.pwCentre + c.pwSpan) :=
    min_lt_max.mpr (by simpa using hspan)
  refine ⟨max (min c.pwCentre (c.pwCentre + c.pwSpan)) 0,
    ⟨le_max_right _ _, max_lt (by linarith) zero_lt_one⟩, ?_⟩
  have hpast := le_max_left (min c.pwCentre (c.pwCentre + c.pwSpan)) 0
  have hwithin : max (min c.pwCentre (c.pwCentre + c.pwSpan)) 0 < max c.pwCentre (c.pwCentre + c.pwSpan) :=
    max_lt hmin (by linarith)
  generalize max (min c.pwCentre (c.pwCentre + c.pwSpan)) 0 = q at hpast hwithin
  rw [pulseWidth, pulseWidth, mul_zero, add_zero, mul_one]
  rcases hspan.lt_or_gt with hneg | hpos
  · rw [min_eq_right (by linarith)] at hpast
    rw [max_eq_left (by linarith)] at hwithin
    exact fun h => hpast.not_gt (h.mp hwithin)
  · rw [min_eq_left (by linarith)] at hpast
    rw [max_eq_right (by linarith)] at hwithin
    exact fun h => hpast.not_gt (h.mpr hwithin)

theorem oscKernelMeetsRules_reference : OscKernelMeetsRules c where
  k2_repeats o o' f pwm draw h hf0 := by
    have ho := reachable_phase hn hk h
    exact ⟨oscWave_saw_repeats hn hk ho f pwm draw, oscWave_pulse_repeats hn hk ho f pwm draw,
      oscWave_sub_repeats hn hk ho f pwm draw hf0⟩
  k2_frequency o o' f pwm draw h hf0 hf := by
    have ho := reachable_phase hn hk h
    have hfs : f < Config.fs := by unfold Config.fs at hf ⊢; linarith
    exact ⟨oscWave_saw_noSooner hn hk ho f pwm draw, oscWave_sub_noSooner hn hk ho f pwm draw hf0.le hfs,
      oscWave_pulse_noSooner_or_const hn hk ho f pwm draw⟩
  k2_pulse o f hf0 hf := by
    obtain ⟨pwm, hpwm, hlo, hhi⟩ := exists_middle_width hr hk
    refine ⟨pwm, hpwm, fun o' draw h => ?_⟩
    have hfs : 0 < Config.fs := by norm_num [Config.fs]
    obtain ⟨⟨i, hi⟩, j, hj⟩ := exists_phase_both_sides o'.phase (div_pos hf0 hfs)
      ((div_lt_iff₀ hfs).mpr (by linarith))
    exact oscWave_pulse_noSooner hn hk (reachable_phase hn hk h) f pwm draw ⟨i, by linarith⟩ ⟨j, by linarith⟩
  k3 o := by
    obtain ⟨q, ⟨hq0, hq1⟩, hne⟩ := exists_phase_between_widths hr hk
    have hfs : 0 < Config.fs := by norm_num [Config.fs]
    have hpulse (pwm : NUM) : (oscCourse c o (q * Config.fs) pwm (fun _ => 0) 0).pulse =
        if q < pulseWidth c pwm then 1 else -1 := by
      have hphase : Int.fract (turned 0 (q * Config.fs / Config.fs) 1) = q := by
        rw [mul_div_cancel_right₀ _ hfs.ne']
        simpa [turned] using Int.fract_eq_self.mpr ⟨hq0, hq1⟩
      refine (oscWave_pulse hn hk (o := oscReset c o) ⟨le_rfl, zero_lt_one⟩ (q * Config.fs) pwm 0 1).trans ?_
      rw [oscReset_phase, hphase]
    refine ⟨q * Config.fs, 0, 1, 0, ⟨mul_nonneg hq0 hfs.le, (mul_lt_iff_lt_one_left hfs).mpr hq1⟩, by norm_num,
      by norm_num, fun heq => hne ?_⟩
    rw [hpulse, hpulse] at heq
    exact iff_of_pulse_eq heq
  k4 o f pwm _ := by
    refine ⟨fun _ => 0, fun _ => 1, 0, by norm_num, by norm_num, ?_⟩
    simp [oscCourse, outputAt, oscWaves, hk]
  k5 o o' f pwm draw _ _ hlo hhi := by
    refine oscWaves_le_of_phase hn ?_ ⟨hlo, hhi⟩ pwm
    rw [oscAdvance_phase hn hk]
    exact ⟨Int.fract_nonneg _, Int.fract_lt_one _⟩

end Exact

end Sys2Proof.Proofs

/-! SUPPORT. The reference voice filter without resonance (R248, R249): four one-poles in a row, each of which comes
to its steady answer to a constant, to a tone and to the highest frequency. -/

namespace Sys2Proof.Proofs

open Sys2Proof.Machine Filter Topology

/-! ## Sequences that come together -/

/-- The distance of two sequences goes to 0. -/
def Nears (w z : Nat → NUM) : Prop := Tendsto (fun n => w n - z n) atTop (𝓝 0)

theorem Nears.refl (w : Nat → NUM) : Nears w w := by simp [Nears]

theorem eventuallyNear_iff_tendsto (x : NUM) (ys : Nat → NUM) : EventuallyNear x ys ↔ Tendsto ys atTop (𝓝 x) := by
  rw [LinearOrderedAddCommGroup.tendsto_nhds]
  simp only [EventuallyNear, eventually_atTop]
  refine ⟨fun h e he => ?_, fun h e he => ?_⟩
  · obtain ⟨n0, hn0⟩ := h (e / 2) (half_pos he)
    exact ⟨n0, fun n hn => (hn0 n hn).trans_lt (half_lt_self he)⟩
  · obtain ⟨n0, hn0⟩ := h e he
    exact ⟨n0, fun n hn => (hn0 n hn).le⟩

/-- A limit of rational numbers, its distances measured by real ones. -/
theorem EventuallyNear.cast {x : NUM} {ys : Nat → NUM} (h : EventuallyNear x ys) {e : ℝ} (he : 0 < e) :
    ∃ n0, ∀ n, n0 ≤ n → |((ys n : NUM) : ℝ) - ((x : NUM) : ℝ)| ≤ e := by
  obtain ⟨q, hq0, hqe⟩ := exists_rat_btwn he
  obtain ⟨n0, hn0⟩ := h q (by exact_mod_cast hq0)
  refine ⟨n0, fun n hn => le_trans ?_ hqe.le⟩
  exact_mod_cast hn0 n hn

/-- A sequence that shrinks by a factor but for a disturbance that dies away dies away. -/
theorem tendsto_zero_of_contraction {b : NUM} (hb0 : 0 ≤ b) (hb1 : b < 1) {d e : Nat → NUM}
    (hd : ∀ n, d (n + 1) = b * d n + (1 - b) * e n) (he : Tendsto e atTop (𝓝 0)) : Tendsto d atTop (𝓝 0) := by
  rw [← eventuallyNear_iff_tendsto] at he ⊢
  intro r hr
  obtain ⟨n0, hn0⟩ := he (r / 2) (half_pos hr)
  have hdecay (k : Nat) : |d (n0 + k)| ≤ b ^ k * |d n0| + r / 2 := by
    induction k with
    | zero => simpa using (half_pos hr).le
    | succ k ih =>
      have hsmall : |e (n0 + k)| ≤ r / 2 := by simpa using hn0 (n0 + k) (by omega)
      calc |d (n0 + (k + 1))| = |b * d (n0 + k) + (1 - b) * e (n0 + k)| := by rw [← hd]; rfl
        _ ≤ b * |d (n0 + k)| + (1 - b) * |e (n0 + k)| := by
          refine (abs_add_le _ _).trans_eq ?_
          rw [abs_mul, abs_mul, abs_of_nonneg hb0, abs_of_nonneg (sub_nonneg.mpr hb1.le)]
        _ ≤ b * (b ^ k * |d n0| + r / 2) + (1 - b) * (r / 2) :=
          add_le_add (mul_le_mul_of_nonneg_left ih hb0) (mul_le_mul_of_nonneg_left hsmall (sub_nonneg.mpr hb1.le))
        _ = b ^ (k + 1) * |d n0| + r / 2 := by ring
  have hpow : EventuallyNear 0 fun k => b ^ k * |d n0| := by
    rw [eventuallyNear_iff_tendsto]
    simpa using (tendsto_pow_atTop_nhds_zero_of_lt_one hb0 hb1).mul_const |d n0|
  obtain ⟨k0, hk0⟩ := hpow (r / 2) (half_pos hr)
  refine ⟨n0 + k0, fun n hn => ?_⟩
  obtain ⟨k, rfl⟩ : ∃ k, n = n0 + k := ⟨n - n0, by omega⟩
  have hk := hk0 k (by omega)
  rw [sub_zero] at hk ⊢
  linarith [hdecay k, le_abs_self (b ^ k * |d n0|)]

/-! ## One pole and its steady answers (R171, R249) -/

/-- One sample of a one-pole low-pass with coefficient `a`, its memory being its output. -/
def pole (a y x : NUM) : NUM × NUM := (y + a * (x - y), y + a * (x - y))

/-- `z` is a course the one-pole can keep under the input `u`. -/
def Steady (a : NUM) (u z : Nat → NUM) : Prop := ∀ n, z (n + 1) = z n + a * (u (n + 1) - z n)

theorem steady_outputAt_pole (a y : NUM) (x : Nat → NUM) : Steady a x (outputAt (pole a) y x) := fun _ => rfl

/-- From every memory, and under an input that comes to `u`, a one-pole comes to its steady answer to `u`. -/
theorem nears_pole {a : NUM} (ha0 : 0 < a) (ha1 : a ≤ 1) {x u z : Nat → NUM} (hx : Nears x u) (hz : Steady a u z)
    (y : NUM) : Nears (outputAt (pole a) y x) z := by
  refine tendsto_zero_of_contraction (b := 1 - a) (e := fun n => x (n + 1) - u (n + 1)) (by linarith) (by linarith)
    (fun n => ?_) (hx.comp (tendsto_add_atTop_nat 1))
  rw [steady_outputAt_pole a y x n, hz n]
  ring

theorem steady_const (a x : NUM) : Steady a (fun _ => x) fun _ => x := fun _ => by ring

/-- The part of the highest frequency a one-pole lets through. -/
def topAnswer (a : NUM) : NUM := a / (2 - a)

theorem topAnswer_mem {a : NUM} (ha0 : 0 < a) (ha1 : a < 1) : 0 ≤ topAnswer a ∧ topAnswer a < 1 :=
  ⟨div_nonneg ha0.le (by linarith), (div_lt_one (by linarith)).mpr (by linarith)⟩

/-- The steady answer to the highest frequency. -/
theorem steady_alternating {a : NUM} (ha : a ≤ 1) (x : NUM) :
    Steady a (alternating x) (alternating (topAnswer a * x)) := by
  have hne : 2 - a ≠ 0 := by linarith
  intro n
  simp only [alternating, topAnswer, pow_succ]
  field_simp
  ring

/-- `1/g`, up to `a^2`, where `g` is the gain of a one-pole at the tone `k`: `|1 - (1 - a) * e^(-i*t)|^2` where
`k = cos t`. -/
def toneDamping (a k : NUM) : NUM := 1 + (1 - a) ^ 2 - 2 * (1 - a) * k

/-- The steady answer to a tone. -/
def toneAnswer (a k : NUM) (u : Nat → NUM) (n : Nat) : NUM := a / toneDamping a k * (u n - (1 - a) * u (n + 1))

theorem toneDamping_pos {a k : NUM} (ha : a < 1) (hk : k < 1) : 0 < toneDamping a k := by
  unfold toneDamping
  nlinarith [mul_pos (sub_pos.mpr ha) (sub_pos.mpr hk), sq_nonneg a]

section Tone

variable {a k : NUM} {u : Nat → NUM}

theorem steady_toneAnswer (hD : toneDamping a k ≠ 0) (hu : IsTone k u) : Steady a u (toneAnswer a k u) := by
  intro n
  simp only [toneAnswer, hu n]
  field_simp
  simp only [toneDamping]
  ring

theorem isTone_toneAnswer (hu : IsTone k u) : IsTone k (toneAnswer a k u) := by
  intro n
  simp only [toneAnswer, hu (n + 1), hu n]
  ring

theorem toneEnergy_eq (hu : IsTone k u) (n : Nat) : toneEnergy k u n = toneEnergy k u 0 := by
  induction n with
  | zero => rfl
  | succ n ih =>
    rw [← ih]
    simp only [toneEnergy, hu n]
    ring

theorem toneEnergy_toneAnswer (hD : toneDamping a k ≠ 0) (hu : IsTone k u) :
    toneEnergy k (toneAnswer a k u) 0 = a ^ 2 / toneDamping a k * toneEnergy k u 0 := by
  simp only [toneEnergy, toneAnswer, hu 0, zero_add]
  field_simp
  simp only [toneDamping]
  ring

/-- A tone is bounded by its energy. -/
theorem abs_tone_le (hk0 : -1 < k) (hk1 : k < 1) (hu : IsTone k u) :
    ∃ B, ∀ n, |u n| ≤ B := by
  have hpos : 0 < 1 - k ^ 2 := by nlinarith
  refine ⟨toneEnergy k u 0 / (1 - k ^ 2) + 1, fun n => ?_⟩
  have hsq : (1 - k ^ 2) * u n ^ 2 ≤ toneEnergy k u 0 := by
    rw [← toneEnergy_eq hu n, toneEnergy]
    nlinarith [sq_nonneg (u (n + 1) - k * u n)]
  have hle : u n ^ 2 ≤ toneEnergy k u 0 / (1 - k ^ 2) := by rwa [le_div_iff₀' hpos]
  nlinarith [sq_abs (u n), sq_nonneg (|u n| - 1), abs_nonneg (u n)]

/-- The energy of what comes to a tone comes to the energy of the tone. -/
theorem tendsto_toneEnergy (hk0 : -1 < k) (hk1 : k < 1) (hu : IsTone k u) {w : Nat → NUM} (hw : Nears w u) :
    Tendsto (toneEnergy k w) atTop (𝓝 (toneEnergy k u 0)) := by
  obtain ⟨B, hB⟩ := abs_tone_le hk0 hk1 hu
  have hw' : Tendsto (fun n => w (n + 1) - u (n + 1)) atTop (𝓝 0) := hw.comp (tendsto_add_atTop_nat 1)
  have hmul {d : Nat → NUM} (hd : Tendsto d atTop (𝓝 0)) (j : Nat) :
      Tendsto (fun n => u (n + j) * d n) atTop (𝓝 0) :=
    bdd_le_mul_tendsto_zero' B (Eventually.of_forall fun n => hB (n + j)) hd
  have hsum := (((((hmul hw 0).const_mul 2).add (hw.pow 2)).sub
    ((((hmul hw' 0).add (hmul hw 1)).add (hw.mul hw')).const_mul (2 * k))).add ((hmul hw' 1).const_mul 2)).add (hw'.pow 2)
  have hlim : Tendsto (fun n => toneEnergy k u 0 + (toneEnergy k w n - toneEnergy k u 0)) atTop
      (𝓝 (toneEnergy k u 0 + 0)) := by
    refine tendsto_const_nhds.add ?_
    convert hsum using 2 with n
    · rw [← toneEnergy_eq hu n]
      simp only [toneEnergy, add_zero]
      ring
    · norm_num
  simpa using hlim

end Tone

/-! ## Four poles in a row (R249) -/

/-- The input run through four one-poles with coefficient `a`, from the memories of a filter. -/
def fourPoles (a : NUM) (s : VcfState) (x : Nat → NUM) : Nat → NUM :=
  outputAt (pole a) s.y4 (outputAt (pole a) s.y3 (outputAt (pole a) s.y2 (outputAt (pole a) s.y1 x)))

/-- The four poles come to the last of four steady answers, each to the one before. -/
theorem nears_fourPoles {a : NUM} (ha0 : 0 < a) (ha1 : a ≤ 1) {z : Nat → Nat → NUM}
    (hz : ∀ i, Steady a (z i) (z (i + 1))) (s : VcfState) : Nears (fourPoles a s (z 0)) (z 4) := by
  have h1 := nears_pole ha0 ha1 (.refl (z 0)) (hz 0) s.y1
  have h2 := nears_pole ha0 ha1 h1 (hz 1) s.y2
  have h3 := nears_pole ha0 ha1 h2 (hz 2) s.y3
  exact nears_pole ha0 ha1 h3 (hz 3) s.y4

/-- A constant comes through. -/
theorem fourPoles_const {a : NUM} (ha0 : 0 < a) (ha1 : a ≤ 1) (s : VcfState) (x : NUM) :
    EventuallyNear x (fourPoles a s fun _ => x) := by
  have hnear : Nears (fourPoles a s fun _ => x) fun _ => x := nears_fourPoles ha0 ha1 (fun _ => steady_const a x) s
  rw [eventuallyNear_iff_tendsto]
  simpa [Nears] using hnear.add_const x

/-- The gain of the four poles at the tone `k`, as a factor of its energy. -/
def fourPolesGain (a k : NUM) : NUM := (a ^ 2 / toneDamping a k) ^ 4

theorem toneAnswer_iterate {a k : NUM} (hD : toneDamping a k ≠ 0) {u : Nat → NUM} (hu : IsTone k u) (i : Nat) :
    IsTone k ((toneAnswer a k)^[i] u) ∧
      toneEnergy k ((toneAnswer a k)^[i] u) 0 = (a ^ 2 / toneDamping a k) ^ i * toneEnergy k u 0 := by
  induction i with
  | zero => exact ⟨hu, by simp⟩
  | succ i ih =>
    obtain ⟨htone, henergy⟩ := ih
    rw [Function.iterate_succ_apply']
    refine ⟨isTone_toneAnswer htone, ?_⟩
    rw [toneEnergy_toneAnswer hD htone, henergy, pow_succ]
    ring

theorem hasGain_fourPoles {a : NUM} (ha0 : 0 < a) (ha1 : a < 1) {k : NUM} (hk0 : -1 < k) (hk1 : k < 1) (s : VcfState) :
    HasGain k (fourPolesGain a k : NUM) (fourPoles a s) := by
  intro x hx e he
  have hD : toneDamping a k ≠ 0 := (toneDamping_pos ha1 hk1).ne'
  have hsteady (i : Nat) : Steady a ((toneAnswer a k)^[i] x) ((toneAnswer a k)^[i + 1] x) := by
    rw [Function.iterate_succ_apply']
    exact steady_toneAnswer hD (toneAnswer_iterate hD hx i).1
  obtain ⟨htone, henergy⟩ := toneAnswer_iterate hD hx 4
  have hlim := tendsto_toneEnergy hk0 hk1 htone (nears_fourPoles ha0 ha1.le hsteady s)
  rw [henergy, ← eventuallyNear_iff_tendsto] at hlim
  obtain ⟨n0, hn0⟩ := EventuallyNear.cast hlim he
  refine ⟨n0, fun n hn => ?_⟩
  rw [← Rat.cast_mul]
  exact hn0 n hn

/-- Of two tones the higher one comes out with less gain. -/
theorem fourPolesGain_lt {a : NUM} (ha0 : 0 < a) (ha1 : a < 1) {k k' : NUM} (hlt : k' < k) (hk1 : k < 1) :
    fourPolesGain a k' < fourPolesGain a k := by
  have hpos := toneDamping_pos ha1 hk1
  have hpos' := toneDamping_pos ha1 (hlt.trans hk1)
  have hdamping : toneDamping a k < toneDamping a k' := by
    unfold toneDamping
    nlinarith
  unfold fourPolesGain
  gcongr

/-- The highest frequency comes out smaller than it went in. -/
theorem fourPoles_alternating {a : NUM} (ha0 : 0 < a) (ha1 : a < 1) (s : VcfState) {x : NUM} (hx : x ≠ 0) :
    ∃ g : NUM, g < 1 ∧ ∃ n0 : Nat, ∀ n : Nat, n0 ≤ n → |fourPoles a s (alternating x) n| ≤ g * |x| := by
  obtain ⟨hr0, hr1⟩ := topAnswer_mem ha0 ha1
  have hr4 : topAnswer a ^ 4 < 1 := pow_lt_one₀ hr0 hr1 (by norm_num)
  have hx0 : 0 < |x| := abs_pos.mpr hx
  have hsteady (i : Nat) : Steady a (alternating (topAnswer a ^ i * x)) (alternating (topAnswer a ^ (i + 1) * x)) := by
    rw [pow_succ', mul_assoc]
    exact steady_alternating ha1.le _
  have hnear := nears_fourPoles ha0 ha1.le hsteady s
  rw [Nears, ← eventuallyNear_iff_tendsto, pow_zero, one_mul] at hnear
  obtain ⟨n0, hn0⟩ := hnear ((1 - topAnswer a ^ 4) / 2 * |x|) (mul_pos (by linarith) hx0)
  refine ⟨(1 + topAnswer a ^ 4) / 2, by linarith, n0, fun n hn => ?_⟩
  have hsize : |alternating (topAnswer a ^ 4 * x) n| = topAnswer a ^ 4 * |x| := by
    simp [alternating, abs_mul, abs_of_nonneg (pow_nonneg hr0 4)]
  have hdist := hn0 n hn
  rw [sub_zero] at hdist
  linarith [abs_sub_abs_le_abs_sub (fourPoles a s (alternating x) n) (alternating (topAnswer a ^ 4 * x) n)]

/-! ## The reference voice filter (R249) -/

/-- The coefficient of the four stages at the cutoff `fc`. -/
def vcfCoef (c : Config) (fc : NUM) : NUM := onePoleCoef c.num (clamp fc c.cutoffMinHz c.cutoffMaxHz)

/-- The states of the voice filter without resonance at one constant cutoff. -/
def vcfCourse (c : Config) (fc : NUM) (s : VcfState) : (Nat → NUM) → Nat → VcfState :=
  stateAfter (fun s x => vcfSample c s x fc 0) s

theorem vcfCourse_succ (c : Config) (fc : NUM) (s : VcfState) (x : Nat → NUM) (n : Nat) :
    vcfCourse c fc s x (n + 1) = vcfAdvance c (vcfCourse c fc s x n) (x n) fc 0 := rfl

section Exact

variable {c : Config} (hr : c.MeetsRules) (hn : c.num.carrier = .rational)

include hr hn

theorem vcfCoef_mem (fc : NUM) : 0 < vcfCoef c fc ∧ vcfCoef c fc < 1 := by
  have hs := numericsSound_of_meetsRules hr
  have hpos : 0 < clamp fc c.cutoffMinHz c.cutoffMaxHz := hr.cutoff_range.1.trans_le (clamp_mem hr.cutoff_range.2).1
  have hneg : -Config.twoPiOverLn2 * clamp fc c.cutoffMinHz c.cutoffMaxHz / Config.fs < 0 := by
    unfold Config.twoPiOverLn2 Config.fs
    linarith
  rw [vcfCoef, onePoleCoef, Numerics.sub_of_rational hn, Numerics.div_of_rational hn, Numerics.mul_of_rational hn]
  exact ⟨sub_pos.mpr (hs.exp2_lt_one _ hneg), sub_lt_self 1 (hs.exp2_pos _)⟩

variable (hk : c.vcfKernel = .reference)

include hk

omit hr in
/-- Without feedback the four memories are the outputs of four one-poles in a row. -/
theorem vcfAdvance_reference (s : VcfState) {x fc r : NUM} (hback : c.resK * r * tanh c.num s.y4 = 0) :
    let a := vcfCoef c fc
    let y1 := (pole a s.y1 x).1
    let y2 := (pole a s.y2 y1).1
    let y3 := (pole a s.y3 y2).1
    vcfAdvance c s x fc r = { s with y1 := y1, y2 := y2, y3 := y3, y4 := (pole a s.y4 y3).1 } := by
  simp only [vcfAdvance, hk, Numerics.sub_of_rational hn, Numerics.prod_of_rational hn, List.prod_cons, List.prod_nil,
    mul_one, ← mul_assoc, hback, sub_zero, onePole_of_rational hn, pole, vcfCoef]

omit hr in
theorem vcfCourse_reference (fc : NUM) (s : VcfState) (x : Nat → NUM) (n : Nat) :
    let p := pole (vcfCoef c fc)
    (vcfCourse c fc s x n).y1 = stateAfter p s.y1 x n ∧
      (vcfCourse c fc s x n).y2 = stateAfter p s.y2 (outputAt p s.y1 x) n ∧
      (vcfCourse c fc s x n).y3 = stateAfter p s.y3 (outputAt p s.y2 (outputAt p s.y1 x)) n ∧
      (vcfCourse c fc s x n).y4 = stateAfter p s.y4 (outputAt p s.y3 (outputAt p s.y2 (outputAt p s.y1 x))) n := by
  induction n with
  | zero => exact ⟨rfl, rfl, rfl, rfl⟩
  | succ n ih =>
    obtain ⟨h1, h2, h3, h4⟩ := ih
    rw [vcfCourse_succ, vcfAdvance_reference hn hk _ (by ring)]
    simp only [h1, h2, h3, h4]
    exact ⟨rfl, rfl, rfl, rfl⟩

omit hr in
theorem vcfRun_reference (fc : NUM) (s : VcfState) (x : Nat → NUM) :
    vcfRun c fc s x = fourPoles (vcfCoef c fc) s x := by
  funext n
  obtain ⟨-, -, -, h4⟩ := vcfCourse_reference hn hk fc s x (n + 1)
  exact (vcfOut_reference hk _ _ _ _).trans h4

/-- On silence a reset filter stays as it is. -/
theorem vcfAdvance_silent (fc r : NUM) : vcfAdvance c (vcfReset c) 0 fc r = vcfReset c := by
  rw [vcfAdvance_reference hn hk (vcfReset c) (by
    rw [show (vcfReset c).y4 = 0 from rfl, (numericsSound_of_meetsRules hr).tanh_zero, mul_zero])]
  simp [pole, vcfReset]

theorem vcfKernelMeetsRules_reference : VcfKernelMeetsRules c where
  k2_pass s fc x _ _ := by
    obtain ⟨ha0, ha1⟩ := vcfCoef_mem hr hn fc
    rw [vcfRun_reference hn hk]
    exact fourPoles_const ha0 ha1.le s x
  k2_falls fc _ _ := by
    obtain ⟨ha0, ha1⟩ := vcfCoef_mem hr hn fc
    have hbelow {k : NUM} (hk : (k : ℝ) < toneCos fc) : k < 1 := by
      exact_mod_cast hk.trans_le (Real.cos_le_one _)
    refine ⟨fun k => (fourPolesGain (vcfCoef c fc) k : NUM), fun s _ k hk0 hk1 => ?_, fun k k' _ hlt hk1 => ?_⟩
    · rw [funext (vcfRun_reference hn hk fc s)]
      exact hasGain_fourPoles ha0 ha1 hk0 (hbelow hk1) s
    · exact Rat.cast_lt.mpr (fourPolesGain_lt ha0 ha1 hlt (hbelow hk1))
  k2_stop s fc x _ _ _ hx := by
    obtain ⟨ha0, ha1⟩ := vcfCoef_mem hr hn fc
    rw [vcfRun_reference hn hk]
    exact fourPoles_alternating ha0 ha1 s hx
  k4 inputs _ n := by
    have hstate (n : Nat) : stateAfter (fun s i => vcfSample c s 0 i.1 i.2) (vcfReset c) inputs n = vcfReset c := by
      induction n with
      | zero => rfl
      | succ n ih => rw [stateAfter, ih, vcfSample, vcfAdvance_silent hr hn hk]
    rw [outputAt, hstate, vcfSample, vcfAdvance_silent hr hn hk, vcfOut_reference hk]
    rfl

end Exact

end Sys2Proof.Proofs

/-! SUPPORT. The kernels of a voice meet their rules (R190, R220, R248). -/

namespace Sys2Proof.Proofs

open Sys2Proof.Machine

section Exact

variable {c : Config} (hr : c.MeetsRules) (hn : c.num.carrier = .rational)

include hr hn

theorem reachable_env_inRange {e : EnvState} (h : Reachable (EnvNext c) (envShutdown c) e) : e.InRange := by
  induction h with
  | refl => exact envShutdown_inRange c
  | tail _ hnext ih =>
    obtain rfl | rfl | ⟨cfg, hcfg, rfl⟩ := hnext
    · exact envNoteOn_inRange ih
    · exact envNoteOff_inRange ih
    · exact envAdvance_inRange hr hn hcfg ih

theorem envKernelMeetsRules_reference (hk : c.envKernel = .reference) : EnvKernelMeetsRules c where
  k2 cfg e := (envAdvance_stage c cfg e).1
  k3 _ h := reachable_env_inRange hr hn h
  k4 _ _ h hcfg := (envAdvance_move hn hcfg (reachable_env_inRange hr hn h)).attack_rises
  k5_falls _ _ h hcfg :=
    (envAdvance_move hn hcfg (reachable_env_inRange hr hn h)).release_falls (reachable_env_inRange hr hn h).1
  k5_ends e course most _ hcourse hs := by
    obtain ⟨N, hN⟩ := exists_nat_ge (e.level * most * 44100)
    obtain ⟨n, -, hidle⟩ := envCourse_release_ends hn hk (course := course)
      (fun n => ⟨(hcourse n).1.2.2.1, (hcourse n).2⟩) hr.thresholds.1 hs hN
    exact ⟨n, hidle⟩
  k6 cfg e := (envAdvance_stage c cfg e).2
  k7 e course h hcourse _ :=
    envCourse_attack_ends hn hk (fun n => (hcourse n).2) (reachable_env_inRange hr hn h).1

end Exact

/-- Settles O44: the reference kernels meet their rules, and of a program they are asked. -/
theorem voiceKernelsMeetTheirRules : Obligations.VoiceKernelsMeetTheirRules := by
  intro c hc
  have hn : c.exact.num.carrier = .rational := Config.exact_carrier c
  refine ⟨?_, ?_, ?_⟩
  · by_cases hk : c.exact.envKernel = .reference
    · exact envKernelMeetsRules_reference hc.rules hn hk
    · exact hc.rules.env_kernel hk
  · by_cases hk : c.exact.oscKernel = .reference
    · exact oscKernelMeetsRules_reference hc.rules hn hk
    · exact hc.rules.osc_kernel hk
  · by_cases hk : c.exact.vcfKernel = .reference
    · exact vcfKernelMeetsRules_reference hc.rules hn hk
    · exact hc.rules.vcf_kernel hk

end Sys2Proof.Proofs

/-! SUPPORT. One frame in exact arithmetic (R213, R223, R228, R242, R243, R324 to R333): the formulas of the shared
modulation, of a voice, of the mix and of the effects chain. -/

namespace Sys2Proof.Proofs

open Sys2Proof.Machine

/-! ## A block of one frame (R322, R334) -/

theorem renderBlock_one (c : Config) (draws : Draws) (t : Nat) (e : Engine) :
    renderBlock c draws t 1 e =
      { eng := endOfBlock c (engineFrame c draws e t).1, out := [(engineFrame c draws e t).2] } := by
  rw [renderBlock_eq_renderByFrame]
  rfl

/-- The mix of a pass over the slots in exact arithmetic (R331). -/
theorem foldl_slotMix_slots {n : Numerics} (hn : n.carrier = .rational) (run : Fin 6 → Voice → Voice × NUM)
    (vs : Vector Voice 6) :
    slots.foldl (slotMix run n.add vs) 0 = ∑ k : Fin 6, if vs[k].active then (run k vs[k]).2 else 0 := by
  have hmix (mix : NUM) (k : Fin 6) :
      slotMix run n.add vs mix k = mix + if vs[k].active then (run k vs[k]).2 else 0 := by
    unfold slotMix
    split_ifs
    · exact Numerics.add_of_rational hn _ _
    · exact (add_zero mix).symm
  simp only [slots, List.foldl_cons, List.foldl_nil, hmix, Fin.sum_univ_six, zero_add]

section Exact

variable {c : Config} (hn : c.num.carrier = .rational)

include hn

/-! ## The formulas of the shared modulation and of a voice -/

theorem detuneOf_of_rational (lfo pm : NUM) : detuneOf c lfo pm = exp2 c.num (lfo * pm * c.pitchModOct) := by
  rw [detuneOf, Numerics.prod_of_rational hn, List.prod_cons, List.prod_cons, List.prod_singleton, mul_assoc]

theorem baseCutoffOct_of_rational (cut res : NUM) :
    baseCutoffOct c.num cut res = cut * (200 / 12) + res * (1 / 2) := by
  rw [baseCutoffOct, Numerics.add_of_rational hn, Numerics.mul_of_rational hn, Numerics.mul_of_rational hn]
  rfl

theorem cutoffOct_of_rational (baseOct envD envVal lfoD lfo ampVal kbdD : NUM) (note : Nat) (bendD bendSemi : NUM) :
    cutoffOct c.num baseOct envD envVal lfoD lfo ampVal kbdD note bendD bendSemi =
      baseOct + envD * envVal * 12 + lfoD * lfo * ampVal + kbdD * ((note : NUM) - 60) / 12
        + bendD * bendSemi * (48 / 84) := by
  simp only [cutoffOct, Numerics.sum_of_rational hn, Numerics.prod_of_rational hn, Numerics.div_of_rational hn,
    Numerics.mul_of_rational hn, List.sum_cons, List.sum_nil, List.prod_cons, List.prod_nil, Config.envModOct,
    Config.kbdCentre, Config.semitones, Config.bendVcfScale]
  push_cast
  ring

theorem cutoffHz_of_rational (oct : NUM) : cutoffHz c.num oct = 39 / 5 * exp2 c.num oct :=
  Numerics.mul_of_rational hn _ _

theorem oscFreq_of_rational (p : Vector NUM 26) (freq detune : NUM) :
    oscFreq c.num p freq detune =
      freq * (if tag p[8] 3 = 0 then 1 / 2 else if tag p[8] 3 = 1 then 1 else 2) * detune := by
  have hrange : Config.rangeMul (rangeSel p) = if tag p[8] 3 = 0 then 1 / 2 else if tag p[8] 3 = 1 then 1 else 2 := by
    unfold Config.rangeMul rangeSel
    split
    next h => rw [if_pos h]
    next h => rw [h, if_neg one_ne_zero, if_pos rfl]
    next h0 h1 => rw [if_neg h0, if_neg h1]
  rw [oscFreq, Numerics.prod_of_rational hn, List.prod_cons, List.prod_cons, List.prod_singleton, hrange, mul_assoc]

theorem sharedMod_of_rational (sm : SharedSm) (x : Nat × NUM) :
    (sharedMod c sm x).2 =
      { frame := x.1
        lfo := x.2
        detune := exp2 c.num (x.2 * (sm.pitchMod.advance c).y * c.pitchModOct)
        baseOct := (sm.cutoff.advance c).y * (200 / 12) + (sm.res.advance c).y * (1 / 2)
        res := (sm.res.advance c).y
        envD := (sm.envMod.advance c).y
        lfoD := 3 * (sm.lfoMod.advance c).y
        kbdD := (sm.kbdMod.advance c).y
        bendD := (sm.bendMod.advance c).y } := by
  simp only [sharedMod, smAdvanceAll, detuneOf_of_rational hn, baseCutoffOct_of_rational hn,
    Numerics.mul_of_rational hn, Config.lfoModOct]

/-- One frame of an active voice by its formulas. -/
theorem voiceFrame_of_rational (p : Vector NUM 26) (b : NUM) (draw : Nat → NUM) (v : Voice) (m : ModFrame) :
    voiceFrame c p b draw v m =
      let v1 := advanceEnvelopes c p v
      let amp := (currentEnv v1).level
      let pwmSm := v.pwmSm.advance c
      let osc := oscSample c v.osc
        (v.freq * (if tag p[8] 3 = 0 then 1 / 2 else if tag p[8] 3 = 1 then 1 else 2) * m.detune)
        (pwmSm.y * pwmSource c v.pwmSrc m.lfo v1.envA.level amp) (drawValue (draw m.frame))
      let oct := m.baseOct + m.envD * v1.envA.level * 12 + m.lfoD * m.lfo * amp
        + m.kbdD * ((noteNumber v : NUM) - 60) / 12 + m.bendD * b * (48 / 84)
      let vcf := vcfSample c v.vcf osc.2 (39 / 5 * exp2 c.num oct) m.res
      ({ v1 with pwmSm := pwmSm, osc := osc.1, vcf := vcf.1 }, vcf.2 * amp * v.vel ^ 2 / 6) := by
  simp only [voiceFrame, oscFreq_of_rational hn, cutoffOct_of_rational hn, cutoffHz_of_rational hn,
    Numerics.mul_of_rational hn, Numerics.div_of_rational hn, Numerics.prod_of_rational hn, List.prod_cons,
    List.prod_nil, Config.mixDiv, mul_one, pow_two, mul_assoc]

omit hn in
/-- The envelopes of an active voice (R202, R326). -/
theorem advanceEnvelopes_eq (c : Config) (p : Vector NUM 26) (v : Voice) :
    advanceEnvelopes c p v =
      { v with
        envA := envAdvance c (cfgA c p) v.envA
        envG := if v.vcaMode = .gateSwitched then envAdvance c Config.gateEnv v.envG else v.envG } := by
  unfold advanceEnvelopes
  cases v.vcaMode <;> rfl

omit hn in
/-- The amplitude envelope is the gate envelope in GateSwitched mode and the tunable one else (R200). -/
theorem currentEnv_level (v : Voice) :
    (currentEnv v).level = if v.vcaMode = .gateSwitched then v.envG.level else v.envA.level := by
  unfold currentEnv
  cases v.vcaMode <;> rfl

/-! ## The effects chain (R290, R306, R333) -/

theorem effectsFrame_of_rational (p : Vector NUM 26) (hp : HpfState) (ch : ChorusState) (x : NUM) :
    effectsFrame c p (hp, ch) x =
      let h := hpfSample c p hp x
      let r := chorusSample c ch (softClip c (h.2 * curve c.num c.ctVca p[0])) (decide (tag p[24] 2 = 1))
        (decide (tag p[25] 2 = 1))
      ((h.1, r.1), r.2) := by
  simp only [effectsFrame, Numerics.mul_of_rational hn]
  rfl

/-! ## One frame over all units (R67) -/

/-- The voices of a frame under an LFO sample, slot by slot. -/
def frameVoice (c : Config) (draws : Draws) (t : Nat) (lfo : NUM) (e : Engine) : Fin 6 → Voice → Voice × NUM :=
  voiceSample c e.params e.bendSemi draws (sharedMod c e.sm (t, lfo)).2

theorem engineFrame_of_rational (draws : Draws) (e : Engine) (t : Nat) :
    engineFrame c draws e t =
      let l := lfoAdvance c e.params (drawValue (draws .lfo t)) e.lfo
      let run := frameVoice c draws t l.out e
      let h := hpfSample c e.params e.hp (∑ k : Fin 6, if e.voices[k].active then (run k e.voices[k]).2 else 0)
      let r := chorusSample c e.chorus (softClip c (h.2 * curve c.num c.ctVca e.params[0]))
        (decide (tag e.params[24] 2 = 1)) (decide (tag e.params[25] 2 = 1))
      ({ e with lfo := l, sm := smAdvanceAll c e.sm, voices := runActive run e.voices, hp := h.1, chorus := r.1 },
        r.2) := by
  rw [engineFrame_eq]
  simp only [foldl_slotMix_slots hn, effectsFrame_of_rational hn]
  rfl

end Exact

/-- The voices after the frame and the deactivation checks (R327, R332). -/
theorem endOfBlock_runActive_voices (c : Config) {run : Fin 6 → Voice → Voice × NUM} (e : Engine)
    (hrun : ∀ k v, (run k v).1.active = v.active) (k : Fin 6) :
    (endOfBlock c { e with voices := runActive run e.voices }).voices[k] =
      if e.voices[k].active = true then deactivationCheck c (run k e.voices[k]).1 else e.voices[k] := by
  have hmap : (endOfBlock c { e with voices := runActive run e.voices }).voices[k] =
      checkActive c (runActive run e.voices)[k] := Vector.getElem_map _ _
  rw [hmap, runActive_getElem, checkActive]
  by_cases ha : e.voices[k].active = true
  · rw [if_pos ha, if_pos ha, if_pos ((hrun k _).trans ha)]
  · rw [if_neg ha, if_neg ha, if_neg ha]

/-- Settles O35: the frame by its formulas, those of a voice being the statement's. -/
theorem renderOneFrame : Obligations.RenderOneFrame := by
  intro s hs hn c e p smooth lfo envA envG amp pwm freq osc oct vcf term hp clipped ch
  have hsmooth (m : Smoother) : m.advance s.cfg = { m with y := smooth m } := advance_of_rational hn m
  have hvoice (k : Fin 6) (v : Voice) :
      frameVoice s.cfg Config.rand s.frameNo lfo.out s.eng k v =
        ({ v with
            envA := envA v, envG := envG v, pwmSm := { v.pwmSm with y := smooth v.pwmSm }
            osc := (osc k v).1, vcf := (vcf k v).1 }, (vcf k v).2 * amp v * v.vel ^ 2 / 6) := by
    rw [frameVoice, voiceSample, voiceFrame_of_rational hn, sharedMod_of_rational hn]
    simp only [advanceEnvelopes_eq, currentEnv_level, hsmooth]
    rfl
  have hframe : engineFrame s.cfg Config.rand s.eng s.frameNo =
      ({ s.eng with
          lfo := lfo, sm := smAdvanceAll s.cfg s.eng.sm
          voices := runActive (frameVoice s.cfg Config.rand s.frameNo lfo.out s.eng) s.eng.voices
          hp := hp.1, chorus := ch.1 }, ch.2) := by
    have hmix : (∑ k : Fin 6, if s.eng.voices[k].active then
        (frameVoice s.cfg Config.rand s.frameNo lfo.out s.eng k s.eng.voices[k]).2 else 0) = ∑ k : Fin 6, term k :=
      Finset.sum_congr rfl fun k _ => by rw [hvoice]
    have hhp : hpfSample s.cfg s.eng.params s.eng.hp _ = hp := congrArg (hpfSample s.cfg s.eng.params s.eng.hp) hmix
    refine (engineFrame_of_rational hn Config.rand s.eng s.frameNo).trans ?_
    simp only
    rw [show lfoAdvance s.cfg s.eng.params (drawValue (Config.rand .lfo s.frameNo)) s.eng.lfo = lfo from rfl, hhp]
  have hblock := renderBlock_one s.cfg Config.rand s.frameNo s.eng
  rw [hframe] at hblock
  refine ⟨⟨_, exec_render_of_valid hs 1, ?_⟩, fun hsource lfoVal envVal ampVal => ?_⟩
  · have hcount : frameCount 1 = 1 := rfl
    rw [hcount]
    simp only [State.respond_pcmPort, State.respond_rspPort, State.respond_frameNo, State.respond_eng,
      renderFrames_rspPort, renderFrames_pcmPort, renderFrames_frameNo, renderFrames_eng, hblock]
    have hy (m : Smoother) : (m.advance s.cfg).y = smooth m := congrArg Smoother.y (hsmooth m)
    refine ⟨rfl, rfl, trivial, rfl, rfl, rfl, ⟨hy _, hy _, hy _, hy _, hy _, hy _, hy _⟩, fun k => ?_⟩
    refine (endOfBlock_runActive_voices s.cfg
      { s.eng with lfo := lfo, sm := smAdvanceAll s.cfg s.eng.sm, hp := hp.1, chorus := ch.1 }
      (fun j v => by rw [hvoice]) k).trans ?_
    simp only [hvoice]
    rfl
  · exact ⟨pwmSource_reference hn hsource .manual lfoVal envVal ampVal,
      pwmSource_reference hn hsource .lfoModulated lfoVal envVal ampVal,
      pwmSource_reference hn hsource .envelopeModulated lfoVal envVal ampVal⟩

end Sys2Proof.Proofs

/-! SUPPORT. The cutoff of a voice in exact arithmetic (R242, R243, R247): positive, and rising with its octaves, which
rise with the envelope's depth and value. -/

namespace Sys2Proof.Proofs

open Sys2Proof.Machine

section Exact

variable {c : Config} (hn : c.num.carrier = .rational)

include hn

theorem cutoffHz_pos (hexp : NumericsSound c.num) (oct : NUM) : 0 < cutoffHz c.num oct := by
  rw [cutoffHz_of_rational hn]
  exact mul_pos (by norm_num) (hexp.exp2_pos oct)

theorem cutoffHz_mono (hexp : NumericsSound c.num) : Monotone (cutoffHz c.num) := by
  intro oct oct' h
  rw [cutoffHz_of_rational hn, cutoffHz_of_rational hn]
  exact mul_le_mul_of_nonneg_left (hexp.exp2_mono oct oct' h) (by norm_num)

/-- Only the second term of R243 moves with the envelope: it is a product of two factors that do not fall, neither of
them negative. -/
theorem cutoffOct_le_of_env {envD envD' envVal envVal' : NUM} (hD : 0 ≤ envD) (hDD' : envD ≤ envD')
    (hVal : 0 ≤ envVal) (hVV' : envVal ≤ envVal') (base lfoD lfo amp kbd bendD bend : NUM) (note : Nat) :
    cutoffOct c.num base envD envVal lfoD lfo amp kbd note bendD bend ≤
      cutoffOct c.num base envD' envVal' lfoD lfo amp kbd note bendD bend := by
  have hterm : envD * envVal ≤ envD' * envVal' := mul_le_mul hDD' hVV' hVal (hD.trans hDD')
  rw [cutoffOct_of_rational hn, cutoffOct_of_rational hn]
  linarith only [hterm]

end Exact

/-- Settles O50: the formulas are those of R242 and R243 in exact arithmetic, where any NUM is that of some
configuration; the sign and Scenario E follow from the laws of `exp2` that an admissible configuration has. -/
theorem cutoffFormula : Obligations.CutoffFormula := by
  refine ⟨fun n hn => ⟨fun cut res => ?_, fun _ _ _ _ _ _ _ _ _ _ => ?_⟩, fun c hc hn => ⟨fun oct => ?_, ?_⟩⟩
  · rw [baseCutoffOct_of_rational (c := { Config.reference with num := n }) hn]
    norm_num
  · exact cutoffOct_of_rational (c := { Config.reference with num := n }) hn ..
  · rw [cutoffHz_of_rational hn]
    norm_num
  · intro base envD envD' envVal envVal' lfoD lfo amp kbd bendD bend note hD hDD' hVal hVV'
    have hexp : NumericsSound c.num := numericsSound_of_meetsRules (meetsRules_of_valid hc hn)
    exact ⟨cutoffHz_pos hn hexp _,
      cutoffHz_mono hn hexp (cutoffOct_le_of_env hn hD hDD' hVal hVV' base lfoD lfo amp kbd bendD bend note)⟩

end Sys2Proof.Proofs

/-! SUPPORT. The LFO under the commands (R263, R274, R276, R277): it is Off in Manual mode, and silent while Off. -/

namespace Sys2Proof.Proofs

open Sys2Proof.Machine

/-! ## The LFO record under a trigger mode -/

/-- R274 and R276 of one LFO record, where `auto` says that the trigger mode is Auto. -/
structure LfoAtRest (auto : Bool) (l : LfoState) : Prop where
  silent : l.stage = .off → l.phase = 0 ∧ l.out = 0
  manual : auto = false → l.stage = .off

theorem lfoAtRest_shutdown (auto : Bool) (c : Config) : LfoAtRest auto (lfoShutdown c) :=
  ⟨fun _ => ⟨rfl, rfl⟩, fun _ => rfl⟩

/-- A note-on starts the LFO, so it needs Auto mode. -/
theorem lfoAtRest_noteOn (l : LfoState) : LfoAtRest true (lfoNoteOn l) :=
  ⟨fun h => LfoStage.noConfusion h, fun h => Bool.noConfusion h⟩

theorem lfoAtRest_noteOff {auto : Bool} {l : LfoState} (h : LfoAtRest auto l) : LfoAtRest auto (lfoNoteOff l) :=
  ⟨h.silent, h.manual⟩

/-- A sample neither starts the LFO nor stops it, and moves nothing while it is Off. -/
theorem lfoAtRest_advance {auto : Bool} {l : LfoState} (h : LfoAtRest auto l) (c : Config) (p : Vector NUM 26)
    (d : NUM) : LfoAtRest auto (lfoAdvance c p d l) := by
  refine ⟨fun hoff => ?_, fun hman => lfoAdvance_stage.mpr (h.manual hman)⟩
  have hl := lfoAdvance_stage.mp hoff
  rw [lfoAdvance_off hl]
  exact ⟨(h.silent hl).1, rfl⟩

/-! ## The LFO of an engine -/

theorem lfoConsistent_iff (s : State) :
    s.LfoConsistent ↔ (s.instValid = true → LfoAtRest (lfoTrigAuto s.eng.params) s.eng.lfo) :=
  forall_congr' fun _ => ⟨fun h => ⟨h.1, h.2⟩, fun h => ⟨h.silent, h.manual⟩⟩

/-- The trigger mode is read from register 20 alone. -/
theorem lfoTrigAuto_setParam_of_ne (e : Engine) {k : Fin 26} (hk : k ≠ 20) (x : NUM) :
    lfoTrigAuto (e.setParam k x).params = lfoTrigAuto e.params := by
  have hval : (k : Nat) ≠ 20 := fun h => hk (Fin.ext h)
  simp [lfoTrigAuto, Vector.getElem_set_ne, hval]

theorem lfoTrigAuto_setParam (e : Engine) (x : NUM) : lfoTrigAuto (e.setParam 20 x).params = (tag x 2 == 0) := by
  simp [lfoTrigAuto]

/-- The effect of index 20 as a write of one field (R372). -/
theorem effectLfoTrigMode_eq (c : Config) (old x : NUM) (e : Engine) :
    effectLfoTrigMode c old x e = { e with lfo := if tag old 2 = tag x 2 then e.lfo else lfoShutdown c } := by
  unfold effectLfoTrigMode
  split
  · rfl
  · rfl

/-- Index 20 alone has an effect on the LFO. -/
theorem paramEffect_lfo_of_ne {k : Fin 26} (hk : k ≠ 20) (c : Config) (old x : NUM) (e : Engine) :
    (paramEffect k c old x e).lfo = e.lfo := by
  unfold paramEffect
  split
  case h_14 h => exact absurd (Fin.ext h) hk
  all_goals rfl

/-- Register 20 written: the same mode as before, or an LFO shut down (R263, R277). -/
theorem lfoAtRest_trigMode {c : Config} {e : Engine} (h : LfoAtRest (lfoTrigAuto e.params) e.lfo) (x : NUM) :
    LfoAtRest (lfoTrigAuto (e.setParam 20 x).params) (effectLfoTrigMode c e.params[20] x (e.setParam 20 x)).lfo := by
  rw [effectLfoTrigMode_eq, lfoTrigAuto_setParam]
  dsimp only
  split
  case isTrue hsame =>
    rw [← hsame]
    exact h
  case isFalse => exact lfoAtRest_shutdown _ _

theorem lfoAtRest_param {c : Config} {e : Engine} (h : LfoAtRest (lfoTrigAuto e.params) e.lfo) (k : Fin 26) {x : NUM}
    (hx : x ≤ paramHi k) :
    LfoAtRest (lfoTrigAuto (paramEngine c k (paramEffect k) x e).params) (paramEngine c k (paramEffect k) x e).lfo := by
  have hfan := paramEffect_fanOut k c e.params[k] x (e.setParam k x) hx
  rw [paramEngine, hfan.sameRegisters.params]
  by_cases hk : k = 20
  · subst hk
    exact lfoAtRest_trigMode h x
  · rw [paramEffect_lfo_of_ne hk, lfoTrigAuto_setParam_of_ne _ hk]
    exact h

theorem lfoAtRest_block {c : Config} {auto : Bool} {e : Engine} (h : LfoAtRest auto e.lfo) (draws : Draws) (t n : Nat) :
    LfoAtRest auto (blockLfo c draws t n e).1 := by
  unfold blockLfo
  exact scanBlock_induct (f := lfoFrame c e.params draws) (P := LfoAtRest auto)
    (fun l t hl => lfoAtRest_advance hl c e.params _) e.lfo (List.range' t n) h

theorem lfoAtRest_keep {c : Config} {e e' : Engine} (h : LfoAtRest (lfoTrigAuto e.params) e.lfo)
    (hstep : EngineStep c e e') : LfoAtRest (lfoTrigAuto e'.params) e'.lfo := by
  cases hstep with
  | same | silence | bend | volume | octave => exact h
  | noteOn a v vel =>
    unfold noteOnEngine
    dsimp only
    split
    case isTrue hstart =>
      rw [(Bool.and_eq_true_iff.mp hstart).1]
      exact lfoAtRest_noteOn e.lfo
    case isFalse => exact h
  | noteOff n =>
    rcases noteOffEngine_cases c e n with heq | ⟨k, l, -, hl, heq⟩
    · rw [heq]; exact h
    · rw [heq]
      rcases hl with rfl | rfl
      · exact h
      · exact lfoAtRest_noteOff h
  | param k v x hx => exact lfoAtRest_param h k (numOperand_mem (paramHi_nonneg k) hx).2
  | render draws t n =>
    rw [renderBlock_eq]
    exact lfoAtRest_block h draws t n

/-- Settles O58: only a note-on starts the LFO, in Auto mode, and a change of mode shuts it down. -/
theorem stepKeepsLfoConsistent : Obligations.StepKeepsLfoConsistent := by
  intro s t hs h
  rw [lfoConsistent_iff] at hs ⊢
  exact step_keeps (P := fun e => LfoAtRest (lfoTrigAuto e.params) e.lfo) h (lfoAtRest_shutdown _ s.cfg)
    (fun _ => lfoAtRest_keep) hs

/-- Settles O27: the one sub-command with an effect on the LFO. -/
theorem lfoTrigModeResult : Obligations.LfoTrigModeResult := by
  intro v x s hs hx
  have hhi : paramHi (20 : Fin 26) = 1 := paramHi_of_ne (by decide) (by decide)
  rw [exec, execParamLfoTrigMode, paramWith_of_some hs (hhi.symm ▸ hx), ok_param, paramEngine, effectLfoTrigMode_eq]
  rfl

end Sys2Proof.Proofs

/-! SUPPORT. The reference LFO sample by sample (R271 to R274): its delay and ramp-in, its phase and its waveforms. -/

namespace Sys2Proof.Proofs

open Sys2Proof.Machine

/-! ## The delay and the ramp-in of every kernel (R271) -/

/-- Counting moves the stage, the count and the ramp alone. -/
theorem lfoCount_frame (c : Config) (p : Vector NUM 26) (l : LfoState) :
    lfoCount c p l =
      { l with stage := (lfoCount c p l).stage, cnt := (lfoCount c p l).cnt, ramp := (lfoCount c p l).ramp } := by
  unfold lfoCount lfoAttackStep lfoDelayStep
  repeat' split
  all_goals rfl

/-- A running sample leaves the stage, the count and the ramp as they were counted. -/
theorem lfoAdvance_counts {c : Config} {p : Vector NUM 26} {d : NUM} {l : LfoState} (h : l.stage ≠ .off) :
    (lfoAdvance c p d l).stage = (lfoCount c p l).stage ∧ (lfoAdvance c p d l).cnt = (lfoCount c p l).cnt ∧
      (lfoAdvance c p d l).ramp = (lfoCount c p l).ramp := by
  obtain ⟨hstage, hcnt, hramp, -⟩ := lfoWaveform_frame c p d (lfoCount c p l)
  rw [lfoAdvance_running h]
  exact ⟨hstage, hcnt, hramp⟩

theorem lfoCount_run {c : Config} {p : Vector NUM 26} {l : LfoState} (h : l.stage = .run) : lfoCount c p l = l := by
  simp only [lfoCount, lfoAttackStep, lfoDelayStep, h]

theorem lfoCount_waits {c : Config} {p : Vector NUM 26} {l : LfoState} (h : l.stage = .delay)
    (hd : (l.cnt : NUM) < lfoDelaySamples c p) : lfoCount c p l = { l with cnt := l.cnt + 1 } := by
  simp only [lfoCount, lfoAttackStep, lfoDelayStep, h, if_neg (not_le.mpr hd)]

/-- Past the delay the ramp-in begins with its first sample. -/
theorem lfoCount_begins {c : Config} {p : Vector NUM 26} {l : LfoState} (h : l.stage = .delay)
    (hd : lfoDelaySamples c p ≤ (l.cnt : NUM)) :
    lfoCount c p l = lfoAttackStep c.num (lfoAttackSamples c p) { l with stage := .attack, cnt := 0 } := by
  simp only [lfoCount, lfoDelayStep, h, if_pos hd]

theorem lfoCount_attack {c : Config} {p : Vector NUM 26} {l : LfoState} (h : l.stage = .attack) :
    lfoCount c p l = lfoAttackStep c.num (lfoAttackSamples c p) l := by
  simp only [lfoCount, lfoDelayStep, h]

/-- A sample of the ramp-in in exact arithmetic: the part of it that has gone by, or its end. -/
theorem lfoAttackStep_of_rational {n : Numerics} (hn : n.carrier = .rational) {a : NUM} {l : LfoState}
    (h : l.stage = .attack) :
    lfoAttackStep n a l =
      if (l.cnt : NUM) + 1 < a then { l with stage := .attack, cnt := l.cnt + 1, ramp := ((l.cnt : NUM) + 1) / a }
      else { l with stage := .run, cnt := l.cnt + 1, ramp := 1 } := by
  by_cases hlt : (l.cnt : NUM) + 1 < a
  · have hne : ((l.cnt : NUM) + 1) / a ≠ 1 :=
      mt (div_eq_one_iff_eq (by linarith [Nat.cast_nonneg (α := NUM) l.cnt])).mp hlt.ne
    simp [lfoAttackStep, h, Numerics.div_of_rational hn, hlt, hne]
  · simp [lfoAttackStep, h, hlt]

/-- Where an LFO is `n` samples after a note-on, with a delay that ends after `m` samples and a ramp-in of `a`. -/
inductive LfoCounted (m : Nat) (a : NUM) : Nat → LfoStage → Nat → NUM → Prop where
  | waits {n : Nat} (h : n ≤ m) : LfoCounted m a n .delay n 0
  | rises {j : Nat} (h0 : 0 < j) (h : (j : NUM) < a) : LfoCounted m a (m + j) .attack j (j / a)
  | full {j k : Nat} (h0 : 0 < j) (h : a ≤ (j : NUM)) : LfoCounted m a (m + j) .run k 1

theorem LfoCounted.stage_ne_off {m n k : Nat} {a r : NUM} {st : LfoStage} (h : LfoCounted m a n st k r) : st ≠ .off := by
  cases h <;> exact LfoStage.noConfusion

theorem LfoCounted.ramp_of_le {m n k : Nat} {a r : NUM} {st : LfoStage} (h : LfoCounted m a n st k r) (hn : n ≤ m) :
    r = 0 := by
  cases h with
  | waits => rfl
  | rises => omega
  | full => omega

theorem LfoCounted.ramp_eq {m n k : Nat} {a r : NUM} {st : LfoStage} (h : LfoCounted m a n st k r) (ha : 0 < a) :
    r = min 1 (((n - m : Nat) : NUM) / a) := by
  cases h with
  | waits h => simp [Nat.sub_eq_zero_of_le h]
  | rises h0 h => rw [Nat.add_sub_cancel_left, min_eq_right ((div_le_one ha).mpr h.le)]
  | full h0 h => rw [Nat.add_sub_cancel_left, min_eq_left ((one_le_div ha).mpr h)]

section Exact

variable {c : Config} (hn : c.num.carrier = .rational) {p : Vector NUM 26} {l : LfoState} {n : Nat}

include hn

theorem lfoCounted_count
    (h : LfoCounted ⌈lfoDelaySamples c p⌉₊ (lfoAttackSamples c p) n l.stage l.cnt l.ramp) :
    LfoCounted ⌈lfoDelaySamples c p⌉₊ (lfoAttackSamples c p) (n + 1) (lfoCount c p l).stage (lfoCount c p l).cnt
      (lfoCount c p l).ramp := by
  generalize hs : l.stage = st, hk : l.cnt = k, hr : l.ramp = r at h
  cases h with
  | waits h =>
    by_cases hd : (l.cnt : NUM) < lfoDelaySamples c p
    · rw [lfoCount_waits hs hd, hs, hk, hr]
      exact .waits (Nat.lt_ceil.mpr (hk ▸ hd))
    · obtain rfl : n = ⌈lfoDelaySamples c p⌉₊ := le_antisymm h (Nat.ceil_le.mpr (hk ▸ not_lt.mp hd))
      rw [lfoCount_begins hs (not_lt.mp hd), lfoAttackStep_of_rational hn rfl]
      split_ifs with hlt
      · simpa using LfoCounted.rises (m := ⌈lfoDelaySamples c p⌉₊) zero_lt_one (by simpa using hlt)
      · exact .full zero_lt_one (by simpa using hlt)
  | rises h0 h =>
    rw [lfoCount_attack hs, lfoAttackStep_of_rational hn hs, hk]
    split_ifs with hlt
    · simpa [Nat.add_assoc] using LfoCounted.rises (m := ⌈lfoDelaySamples c p⌉₊) k.succ_pos (by simpa using hlt)
    · exact .full k.succ_pos (by simpa using hlt)
  | @full j k h0 h =>
    rw [lfoCount_run hs, hs, hr]
    exact .full j.succ_pos (h.trans (by simp))

theorem lfoCounted_iterate (d : NUM) (l : LfoState) (n : Nat) :
    LfoCounted ⌈lfoDelaySamples c p⌉₊ (lfoAttackSamples c p) n ((lfoAdvance c p d)^[n] (lfoNoteOn l)).stage
      ((lfoAdvance c p d)^[n] (lfoNoteOn l)).cnt ((lfoAdvance c p d)^[n] (lfoNoteOn l)).ramp := by
  induction n with
  | zero => exact .waits (Nat.zero_le _)
  | succ n ih =>
    obtain ⟨hstage, hcnt, hramp⟩ := lfoAdvance_counts (c := c) (p := p) (d := d) ih.stage_ne_off
    rw [Function.iterate_succ_apply', hstage, hcnt, hramp]
    exact lfoCounted_count hn ih

/-! ## The phase and the waveforms of the reference kernel (R271, R273) -/

theorem triangleWave_of_rational (q : NUM) :
    triangleWave c.num q = if q < 1/4 then 4 * q else if q < 3/4 then 2 - 4 * q else 4 * q - 4 := by
  simp only [triangleWave, Numerics.mul_of_rational hn, Numerics.sub_of_rational hn]

variable (hk : c.lfoKernel = .reference)

include hk

/-- A sample of the waveform: the phase after it, the held value, and the waveform there. -/
theorem lfoWaveform_reference (p : Vector NUM 26) (d : NUM) (l : LfoState) :
    let q := Int.fract (l.phase + lfoRateHz c p / Config.fs)
    let hold := lfoHold c (decide (1 ≤ l.phase + lfoRateHz c p / Config.fs)) d l.hold
    lfoWaveform c p d l = ({ l with phase := q, hold := hold }, lfoWaveAt c q hold d) := by
  simp only [lfoWaveform, hk, frac, Numerics.sub_of_rational hn, Numerics.add_of_rational hn,
    Numerics.div_of_rational hn]
  rfl

/-- A running sample: counted on, the phase and the held value moved, the waveform times the ramp. -/
theorem lfoAdvance_reference (d : NUM) (h : l.stage ≠ .off) {stage : LfoStage} {cnt : Nat} {ramp : NUM}
    (hcount : lfoCount c p l = { l with stage := stage, cnt := cnt, ramp := ramp }) :
    lfoAdvance c p d l =
      { (lfoWaveform c p d l).1 with
        stage := stage, cnt := cnt, ramp := ramp, out := (lfoWaveform c p d l).2 * ramp } := by
  simp only [lfoAdvance_running h, hcount, lfoWaveform_reference hn hk, Numerics.mul_of_rational hn, lfoGain, hk]

end Exact

theorem lfoHold_eq (c : Config) (ph d hold : NUM) :
    lfoHold c (decide (1 ≤ ph)) d hold = if c.lfoWave = .random ∧ 1 ≤ ph then d else hold := by
  unfold lfoHold
  cases c.lfoWave <;> simp

/-- Settles O45: each stage counts as its equation says, and the counts give the ramp after `n` samples. -/
theorem lfoAdvanceResult : Obligations.LfoAdvanceResult := by
  intro c p d l hk hn delay attack ph q hold wave moved
  have hwave : lfoWaveform c p d l = ({ l with phase := q, hold := hold }, wave) := by
    have hhold : lfoHold c (decide (1 ≤ ph)) d l.hold = hold := lfoHold_eq c ph d l.hold
    have hat : lfoWaveAt c q hold d = wave := by
      unfold lfoWaveAt
      simp only [triangleWave_of_rational hn, Numerics.mul_of_rational hn]
      rfl
    rw [lfoWaveform_reference hn hk, ← hat, ← hhold]
    rfl
  have hdelay : lfoDelaySamples c p = delay := Numerics.mul_of_rational hn _ _
  have hattack : lfoAttackSamples c p = attack := Numerics.mul_of_rational hn _ _
  have hmoved {stage : LfoStage} {cnt : Nat} {ramp : NUM} (h : l.stage ≠ .off)
      (hcount : lfoCount c p l = { l with stage := stage, cnt := cnt, ramp := ramp }) :
      lfoAdvance c p d l = moved stage cnt ramp := by
    rw [lfoAdvance_reference hn hk d h hcount, hwave]
  refine ⟨lfoAdvance_off, fun h hlt => ?_, fun h hle => ?_, fun h => ?_, fun h => ?_, fun ha n => ?_⟩
  · exact hmoved (by simp [h]) (by rw [lfoCount_waits h (hdelay ▸ hlt), ← h])
  · have hcount := lfoCount_begins h (hdelay ▸ hle)
    rw [lfoAttackStep_of_rational hn rfl, hattack] at hcount
    simp only [Nat.cast_zero, zero_add] at hcount
    split_ifs at hcount ⊢
    · exact hmoved (by simp [h]) hcount
    · exact hmoved (by simp [h]) hcount
  · have hcount := lfoCount_attack (c := c) (p := p) h
    rw [lfoAttackStep_of_rational hn h, hattack] at hcount
    split_ifs at hcount ⊢
    · exact hmoved (by simp [h]) hcount
    · exact hmoved (by simp [h]) hcount
  · exact hmoved (by simp [h]) (by rw [lfoCount_run h, ← h])
  · rw [← hdelay, ← hattack]
    exact (lfoCounted_iterate hn d l n).ramp_eq (hattack.symm ▸ ha)

end Sys2Proof.Proofs

/-! SUPPORT. The reference LFO meets its rules (R269, R270): its waveforms are full-scale and have the frequency of the
phase, and a Random one holds the draw of its cycle. -/

namespace Sys2Proof.Proofs

open Sys2Proof.Machine

/-! ## Full-scale waveforms (R270) -/

/-- About the phase `-s/2`, a phase in the second half of the cycle comes to one in the first half when it is turned by
`s`; neither is near an end of its half. -/
theorem exists_phases_across {s : NUM} (h0 : 1/100 ≤ s) (h1 : s ≤ 99/100) :
    ∃ q, 0 ≤ q ∧ q < 1 ∧ ∀ x, q ≤ x → x ≤ q + min s (1 - s) / 2 →
      (1/400 ≤ Int.fract (x + s) ∧ Int.fract (x + s) ≤ 1/2 - 1/400) ∧
        1/2 + 1/400 ≤ Int.fract x ∧ Int.fract x ≤ 1 - 1/400 := by
  refine ⟨1 - s / 2 - min s (1 - s) / 4, ?_, ?_, fun x hlow hup => ?_⟩
  · linarith [min_le_left s (1 - s)]
  · linarith [le_min (by linarith : 0 ≤ s) (by linarith : 0 ≤ 1 - s)]
  have hs := min_le_left s (1 - s)
  have hs' := min_le_right s (1 - s)
  have hfirst : Int.fract (x + s) = x + s - 1 :=
    Int.fract_eq_iff.mpr ⟨by linarith, by linarith, 1, by push_cast; ring⟩
  have hsecond : Int.fract x = x := Int.fract_eq_self.mpr ⟨by linarith, by linarith⟩
  rw [hfirst, hsecond]
  exact ⟨⟨by linarith, by linarith⟩, by linarith, by linarith⟩

/-- A waveform that is positive in the first half of the cycle and negative in the second repeats with a whole cycle
only. -/
theorem fullWave_of_halves {w : NUM → NUM}
    (hends : ∀ top : NUM, top = 1 ∨ top = -1 →
      ∃ q, 0 ≤ q ∧ q + 1/1000 ≤ 1 ∧ ∀ x, q ≤ x → x ≤ q + 1/1000 → x < 1 → |w x - top| ≤ 1/100)
    (hpos : ∀ x, 1/400 ≤ x → x ≤ 1/2 - 1/400 → 0 < w x) (hneg : ∀ x, 1/2 + 1/400 ≤ x → x ≤ 1 - 1/400 → w x < 0) :
    FullWave w := by
  refine ⟨hends, fun s h0 h1 => ?_⟩
  obtain ⟨q, hq0, hq1, hq⟩ := exists_phases_across h0 h1
  refine ⟨q, hq0, hq1, fun x hlow hup => ?_⟩
  obtain ⟨⟨ha, ha'⟩, hb, hb'⟩ := hq x hlow hup
  exact ((hneg _ hb hb').trans (hpos _ ha ha')).ne'

theorem fullWave_triangle {n : Numerics} (hn : n.carrier = .rational) : FullWave (triangleWave n) := by
  have hw (x : NUM) : triangleWave n x = if x < 1/4 then 4 * x else if x < 3/4 then 2 - 4 * x else 4 * x - 4 :=
    triangleWave_of_rational (c := { Config.reference with num := n }) hn x
  refine fullWave_of_halves (fun top htop => ?_) (fun x h0 h1 => ?_) fun x h0 h1 => ?_
  · obtain rfl | rfl := htop
    · refine ⟨1/4, by norm_num, by norm_num, fun x hlow hup _ => ?_⟩
      rw [hw, if_neg (by linarith), if_pos (by linarith)]
      exact abs_le.mpr ⟨by linarith, by linarith⟩
    · refine ⟨3/4, by norm_num, by norm_num, fun x hlow hup _ => ?_⟩
      rw [hw, if_neg (by linarith), if_neg (by linarith)]
      exact abs_le.mpr ⟨by linarith, by linarith⟩
  · rw [hw]
    split_ifs <;> linarith
  · rw [hw]
    split_ifs <;> linarith

theorem fullWave_square : FullWave fun q => if q < 1/2 then 1 else -1 := by
  refine fullWave_of_halves (fun top htop => ?_) (fun x h0 h1 => ?_) fun x h0 h1 => ?_
  · obtain rfl | rfl := htop
    · refine ⟨0, le_rfl, by norm_num, fun x _ hup _ => ?_⟩
      rw [if_pos (by linarith)]
      norm_num
    · refine ⟨1/2, by norm_num, by norm_num, fun x hlow _ _ => ?_⟩
      rw [if_neg (by linarith)]
      norm_num
  · rw [if_pos (by linarith)]
    norm_num
  · rw [if_neg (by linarith)]
    norm_num

/-! ## The sine (R273) -/

theorem sin_ge_of_mem {y : ℝ} (h0 : 3/200 ≤ y) (h1 : y ≤ 3.126) : 1/200 ≤ Real.sin y := by
  have hpi := Real.pi_gt_d4
  have hpi' := Real.pi_lt_d4
  have hbelow {z : ℝ} (hz0 : 3/200 ≤ z) (hz1 : z ≤ Real.pi / 2) : 1/200 ≤ Real.sin z := by
    have hslope : 1/2 ≤ 2 / Real.pi := by rw [le_div_iff₀ Real.pi_pos]; linarith
    calc (1/200 : ℝ) ≤ 1/2 * z := by linarith
      _ ≤ 2 / Real.pi * z := mul_le_mul_of_nonneg_right hslope (by linarith)
      _ ≤ Real.sin z := Real.mul_le_sin (by linarith) hz1
  rcases le_total y (Real.pi / 2) with hy | hy
  · exact hbelow h0 hy
  · rw [← Real.sin_pi_sub]
    exact hbelow (by linarith) (by linarith)

theorem abs_sin_sub_one_le {y : ℝ} (h0 : 1.57 ≤ y) (h1 : y ≤ 1.58) : |Real.sin y - 1| ≤ 1/1000 := by
  have hpi := Real.pi_gt_d4
  have hpi' := Real.pi_lt_d4
  have hcos : 1 - (y - Real.pi / 2) ^ 2 / 2 ≤ Real.sin y := by
    rw [← Real.cos_sub_pi_div_two]
    exact Real.one_sub_sq_div_two_le_cos
  exact abs_le.mpr ⟨by nlinarith, by linarith [Real.sin_le_one y]⟩

/-- The angle of a phase of the cycle. -/
def lfoAngle (x : NUM) : ℝ := ((Config.twoPiLfo * x : NUM) : ℝ)

theorem lfoAngle_mem {lo hi x : NUM} (h0 : lo ≤ x) (h1 : x ≤ hi) :
    6.283185307179586 * (lo : ℝ) ≤ lfoAngle x ∧ lfoAngle x ≤ 6.283185307179586 * (hi : ℝ) := by
  have h0' : (lo : ℝ) ≤ (x : ℝ) := Rat.cast_le.mpr h0
  have h1' : (x : ℝ) ≤ (hi : ℝ) := Rat.cast_le.mpr h1
  simp only [lfoAngle, Config.twoPiLfo]
  push_cast
  exact ⟨by linarith, by linarith⟩

section Sine

variable {n : Numerics} (hn : n.carrier = .rational) (hsound : NumericsSound n) {x : NUM}

include hn hsound

/-- The model's sine at a phase of the cycle, against the real one. -/
theorem lfoSine_near (h0 : 0 ≤ x) (h1 : x ≤ 1) :
    |((Machine.sin n (n.mul Config.twoPiLfo x) : NUM) : ℝ) - Real.sin (lfoAngle x)| ≤ 1/1000 := by
  have hsmall : |Config.twoPiLfo * x| ≤ 8 := by
    unfold Config.twoPiLfo
    exact abs_le.mpr ⟨by linarith, by linarith⟩
  rw [Numerics.mul_of_rational hn]
  exact hsound.sin_near _ hsmall

/-- The same, half a cycle on. -/
theorem lfoSine_near_neg (h0 : 0 ≤ x) (h1 : x ≤ 1) :
    |((Machine.sin n (n.mul Config.twoPiLfo x) : NUM) : ℝ) + Real.sin (lfoAngle x - Real.pi)| ≤ 1/1000 := by
  rw [Real.sin_sub_pi, ← sub_eq_add_neg]
  exact lfoSine_near hn hsound h0 h1

theorem lfoSine_pos (h0 : 1/400 ≤ x) (h1 : x ≤ 1/2 - 1/400) : 0 < Machine.sin n (n.mul Config.twoPiLfo x) := by
  obtain ⟨hnear, -⟩ := abs_le.mp (lfoSine_near hn hsound (by linarith) (by linarith))
  obtain ⟨hlow, hup⟩ := lfoAngle_mem h0 h1
  push_cast at hlow hup
  have hsin := sin_ge_of_mem (y := lfoAngle x) (by linarith) (by linarith)
  rw [← Rat.cast_lt (K := ℝ), Rat.cast_zero]
  linarith

theorem lfoSine_neg (h0 : 1/2 + 1/400 ≤ x) (h1 : x ≤ 1 - 1/400) : Machine.sin n (n.mul Config.twoPiLfo x) < 0 := by
  obtain ⟨-, hnear⟩ := abs_le.mp (lfoSine_near_neg hn hsound (by linarith) (by linarith))
  obtain ⟨hlow, hup⟩ := lfoAngle_mem h0 h1
  push_cast at hlow hup
  have hsin := sin_ge_of_mem (y := lfoAngle x - Real.pi) (by linarith [Real.pi_lt_d4]) (by linarith [Real.pi_gt_d4])
  rw [← Rat.cast_lt (K := ℝ), Rat.cast_zero]
  linarith

theorem lfoSine_top (h0 : 1/4 ≤ x) (h1 : x ≤ 1/4 + 1/1000) :
    |Machine.sin n (n.mul Config.twoPiLfo x) - 1| ≤ 1/100 := by
  obtain ⟨hnear, hnear'⟩ := abs_le.mp (lfoSine_near hn hsound (by linarith) (by linarith))
  obtain ⟨hlow, hup⟩ := lfoAngle_mem h0 h1
  push_cast at hlow hup
  obtain ⟨hsin, hsin'⟩ := abs_le.mp (abs_sin_sub_one_le (y := lfoAngle x) (by linarith) (by linarith))
  rw [← Rat.cast_le (K := ℝ)]
  push_cast
  exact abs_le.mpr ⟨by linarith, by linarith⟩

theorem lfoSine_bottom (h0 : 3/4 ≤ x) (h1 : x ≤ 3/4 + 1/1000) :
    |Machine.sin n (n.mul Config.twoPiLfo x) - -1| ≤ 1/100 := by
  obtain ⟨hnear, hnear'⟩ := abs_le.mp (lfoSine_near_neg hn hsound (by linarith) (by linarith))
  obtain ⟨hlow, hup⟩ := lfoAngle_mem h0 h1
  push_cast at hlow hup
  obtain ⟨hsin, hsin'⟩ := abs_le.mp (abs_sin_sub_one_le (y := lfoAngle x - Real.pi) (by linarith [Real.pi_lt_d4])
    (by linarith [Real.pi_gt_d4]))
  rw [← Rat.cast_le (K := ℝ)]
  push_cast
  exact abs_le.mpr ⟨by linarith, by linarith⟩

theorem fullWave_sine : FullWave fun x => Machine.sin n (n.mul Config.twoPiLfo x) := by
  refine fullWave_of_halves (fun top htop => ?_) (fun x => lfoSine_pos hn hsound) fun x => lfoSine_neg hn hsound
  obtain rfl | rfl := htop
  · exact ⟨1/4, by norm_num, by norm_num, fun x h0 h1 _ => lfoSine_top hn hsound h0 h1⟩
  · exact ⟨3/4, by norm_num, by norm_num, fun x h0 h1 _ => lfoSine_bottom hn hsound h0 h1⟩

end Sine

/-! ## The states that can arise -/

/-- While the gate is open the LFO runs: a note-on starts it, and what stops it closes the gate (R263 to R265). -/
def GateRuns (l : LfoState) : Prop := l.gate = true → l.stage ≠ .off

theorem lfoAdvance_gate (c : Config) (p : Vector NUM 26) (d : NUM) (l : LfoState) :
    (lfoAdvance c p d l).gate = l.gate := by
  by_cases h : l.stage = .off
  · rw [lfoAdvance_off h]
  · obtain ⟨-, -, -, hgate⟩ := lfoWaveform_frame c p d (lfoCount c p l)
    rw [lfoAdvance_running h]
    exact hgate.trans (by rw [lfoCount_frame c p l])

theorem reachable_lfo {c : Config} (hn : c.num.carrier = .rational) {l : LfoState}
    (h : Reachable (LfoNext c) (lfoShutdown c) l) : l.InRange ∧ GateRuns l := by
  induction h with
  | refl => exact ⟨lfoShutdown_inRange, fun h => Bool.noConfusion h⟩
  | tail _ hnext ih =>
    obtain ⟨hrange, hgate⟩ := ih
    obtain rfl | rfl | rfl | ⟨p, d, ⟨-, -, hd⟩, rfl⟩ := hnext
    · exact ⟨lfoShutdown_inRange, fun h => Bool.noConfusion h⟩
    · exact ⟨lfoNoteOn_inRange hrange, fun _ => LfoStage.noConfusion⟩
    · exact ⟨hrange, fun h => Bool.noConfusion h⟩
    · exact ⟨lfoAdvance_inRange hn hd hrange,
        fun h => mt lfoAdvance_stage.mp (hgate ((lfoAdvance_gate c p d _).symm.trans h))⟩

theorem lfoAdvance_iterate_running {c : Config} {p : Vector NUM 26} {d : NUM} {l : LfoState} (h : l.stage ≠ .off)
    (n : Nat) : ((lfoAdvance c p d)^[n] l).stage ≠ .off := by
  induction n with
  | zero => exact h
  | succ n ih => rw [Function.iterate_succ_apply']; exact mt lfoAdvance_stage.mp ih

theorem lfoIterate_inRange {c : Config} (hn : c.num.carrier = .rational) {p : Vector NUM 26} {d : NUM}
    (hd : -1 ≤ d ∧ d ≤ 1) {l : LfoState} (h : l.InRange) (n : Nat) : ((lfoAdvance c p d)^[n] l).InRange := by
  induction n with
  | zero => exact h
  | succ n ih => rw [Function.iterate_succ_apply']; exact lfoAdvance_inRange hn hd ih

theorem lfoCourse_succ (c : Config) (p : Vector NUM 26) (l : LfoState) (d : Nat → NUM) (n : Nat) :
    lfoCourse c p l d (n + 1) = lfoAdvance c p (d n) (lfoCourse c p l d n) := rfl

theorem lfoCourse_running {c : Config} {p : Vector NUM 26} {l : LfoState} (h : l.stage ≠ .off) (d : Nat → NUM)
    (n : Nat) : (lfoCourse c p l d n).stage ≠ .off := by
  induction n with
  | zero => exact h
  | succ n ih => rw [lfoCourse_succ]; exact mt lfoAdvance_stage.mp ih

/-- The waveforms that take no draw do not see it (R269 K4). -/
theorem lfoAdvance_drawless {c : Config} (h : LfoDrawless c) (p : Vector NUM 26) (d d' : NUM) (l : LfoState) :
    lfoAdvance c p d l = lfoAdvance c p d' l := by
  simp only [lfoAdvance, lfoWaveform_drawless h p d d']

theorem lfoWaveAt_drawless {c : Config} (h : LfoDrawless c) (q hold d : NUM) :
    lfoWaveAt c q hold d = lfoWaveAt c q 0 0 := by
  unfold lfoWaveAt
  rcases h with h | h | h
  · simp only [h]
  · simp only [h]
  · simp only [h]

section Exact

variable {c : Config} (hr : c.MeetsRules) (hn : c.num.carrier = .rational) (hk : c.lfoKernel = .reference)
  {p : Vector NUM 26} {l : LfoState}

include hn hk

/-! ## The phase and the held value of the reference kernel -/

theorem lfoAdvance_moves (d : NUM) (h : l.stage ≠ .off) :
    (lfoAdvance c p d l).phase = Int.fract (l.phase + lfoRateHz c p / Config.fs) ∧
      (lfoAdvance c p d l).hold = lfoHold c (decide (1 ≤ l.phase + lfoRateHz c p / Config.fs)) d l.hold := by
  rw [lfoAdvance_reference hn hk d h (lfoCount_frame c p l), lfoWaveform_reference hn hk]
  exact ⟨rfl, rfl⟩

/-- The Random waveform is the held value after the sample (R273). -/
theorem lfoWaveform_random (hw : c.lfoWave = .random) (d : NUM) (l : LfoState) :
    (LfoBegins c p l → (lfoWaveform c p d l).2 = d) ∧ (¬LfoBegins c p l → (lfoWaveform c p d l).2 = l.hold) := by
  have hheld : (lfoWaveform c p d l).2 = if 1 ≤ l.phase + lfoRateHz c p / Config.fs then d else l.hold := by
    rw [lfoWaveform_reference hn hk]
    simp [lfoWaveAt, lfoHold, hw]
  exact ⟨fun hb => hheld.trans (if_pos hb), fun hb => hheld.trans (if_neg hb)⟩

theorem lfoAdvance_hold_random (hw : c.lfoWave = .random) (d : NUM) (h : l.stage ≠ .off) :
    (lfoAdvance c p d l).hold = (lfoWaveform c p d l).2 := by
  rw [(lfoAdvance_moves hn hk d h).2, lfoWaveform_reference hn hk]
  simp [lfoWaveAt, hw]

/-- From the sample at which a cycle begins to the next such one a Random waveform is the draw of the first. -/
theorem lfoCourse_random (hw : c.lfoWave = .random) (h : l.stage ≠ .off) (d : Nat → NUM) {j k : Nat} (hjk : j ≤ k)
    (hj : LfoBegins c p (lfoCourse c p l d j))
    (hnone : ∀ m, j < m → m ≤ k → ¬LfoBegins c p (lfoCourse c p l d m)) :
    (lfoWaveform c p (d k) (lfoCourse c p l d k)).2 = d j := by
  induction k, hjk using Nat.le_induction with
  | base => exact (lfoWaveform_random hn hk hw (d j) _).1 hj
  | succ k hjk ih =>
    rw [(lfoWaveform_random hn hk hw _ _).2 (hnone _ (by omega) le_rfl), lfoCourse_succ,
      lfoAdvance_hold_random hn hk hw _ (lfoCourse_running h d k)]
    exact ih fun m hjm hmk => hnone m hjm (by omega)

/-- Under one draw a Random waveform holds it, or no cycle has begun yet. -/
theorem lfoIterate_random (hw : c.lfoWave = .random) (h : l.stage ≠ .off) (hrange : 0 ≤ l.phase ∧ l.phase < 1)
    (hrate : 0 ≤ lfoRateHz c p) (d : NUM) (n : Nat) :
    ((lfoAdvance c p d)^[n] l).hold = d ∨
      ((lfoAdvance c p d)^[n] l).phase = l.phase + n * (lfoRateHz c p / Config.fs) := by
  have hturn : 0 ≤ lfoRateHz c p / Config.fs := div_nonneg hrate (by norm_num [Config.fs])
  induction n with
  | zero => exact .inr (by simp)
  | succ n ih =>
    have hrun := lfoAdvance_iterate_running (c := c) (p := p) (d := d) h n
    rw [Function.iterate_succ_apply', lfoAdvance_hold_random hn hk hw d hrun]
    by_cases hb : LfoBegins c p ((lfoAdvance c p d)^[n] l)
    · exact .inl ((lfoWaveform_random hn hk hw d _).1 hb)
    · rw [(lfoWaveform_random hn hk hw d _).2 hb, (lfoAdvance_moves hn hk d hrun).1]
      refine ih.imp_right fun hphase => ?_
      rw [LfoBegins, hphase, not_le] at hb
      rw [hphase, Int.fract_eq_self.mpr ⟨by nlinarith [mul_nonneg (Nat.cast_nonneg (α := NUM) n) hturn], hb⟩]
      push_cast
      ring

/-- Under one draw a Random waveform holds it from two cycles on. -/
theorem lfoIterate_random_drawn (hw : c.lfoWave = .random) (h : l.stage ≠ .off) (hrange : l.InRange)
    (hrate : 0 ≤ lfoRateHz c p) {d : NUM} (hd : -1 ≤ d ∧ d ≤ 1) {n : Nat} (hcycles : 2 * Config.fs ≤ n * lfoRateHz c p) :
    (lfoWaveform c p d ((lfoAdvance c p d)^[n] l)).2 = d := by
  have hrange' := lfoIterate_inRange hn (p := p) hd hrange n
  have hhold : ((lfoAdvance c p d)^[n] l).hold = d := by
    refine (lfoIterate_random hn hk hw h hrange.1 hrate d n).resolve_right fun hphase => ?_
    have htwo : 2 ≤ n * (lfoRateHz c p / Config.fs) := by
      rw [← mul_div_assoc, le_div_iff₀ (by norm_num [Config.fs])]
      exact hcycles
    linarith [hrange.1.1, hrange'.1.2]
  by_cases hb : LfoBegins c p ((lfoAdvance c p d)^[n] l)
  · exact (lfoWaveform_random hn hk hw d _).1 hb
  · exact ((lfoWaveform_random hn hk hw d _).2 hb).trans hhold

/-! ## The rules -/

include hr in
omit hk in
theorem fullWave_lfoWaveAt (hw : LfoDrawless c) : FullWave fun q => lfoWaveAt c q 0 0 := by
  unfold lfoWaveAt
  rcases hw with hw | hw | hw
  · simp only [hw]
    exact fullWave_triangle hn
  · simp only [hw]
    exact fullWave_sine hn (numericsSound_of_meetsRules hr)
  · simp only [hw]
    exact fullWave_square

include hr

theorem lfoKernelMeetsRules_reference : LfoKernelMeetsRules c where
  k1 _ _ _ := lfoAdvance_off
  k2_delay p d l n _ hlt := by
    have hcount := lfoCounted_iterate hn (p := p) d l (n + 1)
    have hramp := hcount.ramp_of_le (Nat.lt_ceil.mpr hlt)
    rw [Function.iterate_succ_apply'] at hramp ⊢
    have hrun := (lfoCounted_iterate hn (p := p) d l n).stage_ne_off
    rw [(lfoAdvance_counts hrun).2.2] at hramp
    rw [lfoAdvance_reference hn hk d hrun (lfoCount_frame c p _), hramp, mul_zero]
  k2_ramp p d l n ha := (lfoCounted_iterate hn d l n).ramp_eq ha
  k2_gain := by
    have hgain (u : NUM) : lfoGain c u = u := by simp only [lfoGain, hk]
    simp only [hgain]
    exact ⟨trivial, trivial, fun u v _ huv _ => ⟨huv, fun _ => by linarith, fun _ => by linarith⟩⟩
  k2_amplitude p d l h := by
    rw [(lfoAdvance_counts h).2.2, lfoAdvance_reference hn hk d h (lfoCount_frame c p l), lfoGain]
    simp only [hk]
  k2_phase p d l h := (lfoAdvance_moves hn hk d h).1
  k2_wave hw := by
    refine ⟨fun _ q => lfoWaveAt c q 0 0, fun p => ⟨fun _ => fullWave_lfoWaveAt hr hn hw, fun d l q _ _ _ _ _ => ?_⟩⟩
    rw [lfoWaveform_reference hn hk]
    exact lfoWaveAt_drawless hw _ _ _
  k2_random hw p l d i j k hreach hgate _ hij hjk _ hj honly := by
    have hrun := (reachable_lfo hn hreach).2 hgate
    have hheld := lfoCourse_random hn hk hw hrun d hjk hj fun m hjm hmk hb => hjm.ne' (honly m (by omega) hmk hb)
    rw [hheld]
    exact ⟨⟨by linarith [min_le_right (d i) (d j)], by linarith [le_max_right (d i) (d j)]⟩, fun _ => by norm_num⟩
  k2_drawn hw p l d n hreach hgate hin hcycles := by
    obtain ⟨hrange, hruns⟩ := reachable_lfo hn hreach
    have hheld : (lfoWaveform c p d ((lfoAdvance c p d)^[n] l)).2 = d := by
      rcases hw with hw | hw
      · exact lfoIterate_random_drawn hn hk hw (hruns hgate) hrange (curve_of_tableValues hr.lfoRate_table.2 _).1
          hin.2.2 hcycles
      · rw [lfoWaveform_reference hn hk]
        simp only [lfoWaveAt, hw]
    rw [hheld]
    norm_num
  k3 l hreach := (reachable_lfo hn hreach).1.2.1
  k4 p d d' l hw := lfoAdvance_drawless hw p d d' l

end Exact

end Sys2Proof.Proofs

/-! SUPPORT. The reference high-pass (R294, R295): the input less a one-pole, which comes to its steady answer, so its
gains and its corner are known. -/

namespace Sys2Proof.Proofs

open Sys2Proof.Machine Filter Topology

/-! ## The input less a one-pole -/

/-- The input less what a one-pole with coefficient `a` makes of it from the memory `y`. -/
def highPass (a y : NUM) (x : Nat → NUM) (n : Nat) : NUM := x n - outputAt (pole a) y x n

theorem nears_highPass {a : NUM} (ha0 : 0 < a) (ha1 : a ≤ 1) {x z : Nat → NUM} (hz : Steady a x z) (y : NUM) :
    Nears (highPass a y x) fun n => x n - z n := by
  have hneg := (nears_pole ha0 ha1 (.refl x) hz y).neg
  rw [neg_zero] at hneg
  refine hneg.congr fun n => ?_
  rw [highPass]
  ring

/-- A constant does not come through. -/
theorem highPass_const {a : NUM} (ha0 : 0 < a) (ha1 : a ≤ 1) (y x : NUM) : EventuallyNear 0 (highPass a y fun _ => x) := by
  rw [eventuallyNear_iff_tendsto]
  simpa [Nears] using nears_highPass ha0 ha1 (steady_const a x) y

/-! ## The top of the frequency range -/

/-- The gain of the high-pass at half the sample rate, as a factor of the square of the input. -/
def highPassTop (a : NUM) : NUM := (1 - topAnswer a) ^ 2

theorem highPassTop_pos {a : NUM} (ha0 : 0 < a) (ha1 : a < 1) : 0 < highPassTop a :=
  pow_pos (sub_pos.mpr (topAnswer_mem ha0 ha1).2) 2

theorem hasTopGain_highPass {a : NUM} (ha0 : 0 < a) (ha1 : a < 1) (y : NUM) :
    HasTopGain (highPassTop a : NUM) (highPass a y) := by
  have hnear := nears_highPass ha0 ha1.le (steady_alternating ha1.le 1) y
  have hsigned : Tendsto (fun n => (-1) ^ n * highPass a y (alternating 1) n) atTop (𝓝 (1 - topAnswer a)) := by
    rw [← eventuallyNear_iff_tendsto]
    rw [Nears, ← eventuallyNear_iff_tendsto] at hnear
    intro e he
    obtain ⟨n0, hn0⟩ := hnear e he
    refine ⟨n0, fun n hn => ?_⟩
    have hsquare : (-1 : NUM) ^ n * (-1) ^ n = 1 := by rw [← mul_pow]; norm_num
    have hfactor : (-1) ^ n * highPass a y (alternating 1) n - (1 - topAnswer a) =
        (-1) ^ n * (highPass a y (alternating 1) n - (alternating 1 n - alternating (topAnswer a * 1) n) - 0) := by
      simp only [alternating]
      linear_combination (1 - topAnswer a) * hsquare
    rw [hfactor, abs_mul, abs_pow, abs_neg, abs_one, one_pow, one_mul]
    exact hn0 n hn
  have hpow : EventuallyNear (highPassTop a) fun n => highPass a y (alternating 1) n ^ 2 := by
    rw [eventuallyNear_iff_tendsto]
    refine (hsigned.pow 2).congr fun n => ?_
    rw [mul_pow, ← pow_mul, mul_comm n 2, pow_mul]
    norm_num
  exact fun e he => EventuallyNear.cast hpow he

/-! ## Tones -/

/-- The gain of the high-pass at the tone `k`, as a factor of its energy. -/
def highPassGain (a k : NUM) : NUM := (1 - a) ^ 2 * (2 - 2 * k) / toneDamping a k

/-- The steady answer of the high-pass to a tone is a tone. -/
theorem isTone_highPassAnswer {a k : NUM} {u : Nat → NUM} (hu : IsTone k u) :
    IsTone k fun n => u n - toneAnswer a k u n := by
  intro n
  simp only [hu n, isTone_toneAnswer (a := a) hu n]
  ring

theorem toneEnergy_highPassAnswer {a k : NUM} (hD : toneDamping a k ≠ 0) {u : Nat → NUM} (hu : IsTone k u) :
    toneEnergy k (fun n => u n - toneAnswer a k u n) 0 = highPassGain a k * toneEnergy k u 0 := by
  simp only [toneEnergy, toneAnswer, highPassGain, hu 0, zero_add]
  field_simp
  simp only [toneDamping]
  ring

theorem hasGain_highPass {a : NUM} (ha0 : 0 < a) (ha1 : a < 1) {k : NUM} (hk0 : -1 < k) (hk1 : k < 1) (y : NUM) :
    HasGain k (highPassGain a k : NUM) (highPass a y) := by
  intro x hx e he
  have hD : toneDamping a k ≠ 0 := (toneDamping_pos ha1 hk1).ne'
  have hnear := nears_highPass ha0 ha1.le (steady_toneAnswer hD hx) y
  have hlim := tendsto_toneEnergy hk0 hk1 (isTone_highPassAnswer hx) hnear
  rw [toneEnergy_highPassAnswer hD hx, ← eventuallyNear_iff_tendsto] at hlim
  obtain ⟨n0, hn0⟩ := EventuallyNear.cast hlim he
  refine ⟨n0, fun n hn => ?_⟩
  rw [← Rat.cast_mul]
  exact hn0 n hn

/-! ## The corner -/

/-- The cosine of the tone that comes out with half the energy of the top. -/
def highPassCorner (a : NUM) : NUM := 2 * (1 - a) / (1 + (1 - a) ^ 2)

theorem highPassCorner_mem {a : NUM} (ha0 : 0 < a) (ha1 : a < 1) : -1 < highPassCorner a ∧ highPassCorner a < 1 := by
  have hpos : 0 < 1 + (1 - a) ^ 2 := by positivity
  refine ⟨lt_of_lt_of_le (by norm_num) (div_nonneg (by linarith) hpos.le), (div_lt_one hpos).mpr ?_⟩
  nlinarith [pow_pos ha0 2]

/-- A faster pole has a higher corner, whose cosine is less. -/
theorem highPassCorner_lt {a a' : NUM} (ha0 : 0 < a) (hlt : a < a') (ha1 : a' < 1) :
    highPassCorner a' < highPassCorner a := by
  have hpos : 0 < 1 + (1 - a) ^ 2 := by positivity
  have hpos' : 0 < 1 + (1 - a') ^ 2 := by positivity
  have hprod : (1 - a) * (1 - a') < 1 := by nlinarith
  rw [highPassCorner, highPassCorner, div_lt_div_iff₀ hpos' hpos]
  nlinarith [mul_pos (sub_pos.mpr hlt) (sub_pos.mpr hprod)]

/-- Where the gain is above half that of the top, and where below. -/
theorem highPassGain_sub_half_top {a k : NUM} (ha0 : 0 < a) (ha1 : a < 1) (hk1 : k < 1) :
    highPassGain a k - highPassTop a / 2 =
      2 * (1 - a) ^ 2 * (1 + (1 - a) ^ 2) / (toneDamping a k * (2 - a) ^ 2) * (highPassCorner a - k) := by
  have hD := (toneDamping_pos ha1 hk1).ne'
  have h2 : 2 - a ≠ 0 := by linarith
  have hcorner : 1 + (1 - a) ^ 2 ≠ 0 := by positivity
  unfold highPassGain highPassTop topAnswer highPassCorner
  field_simp
  simp only [toneDamping]
  ring

/-- The gain is nowhere above that of the top. -/
theorem highPassGain_le_top {a k : NUM} (ha0 : 0 < a) (ha1 : a < 1) (hk0 : -1 < k) (hk1 : k < 1) :
    highPassGain a k ≤ highPassTop a := by
  have hD := toneDamping_pos ha1 hk1
  have h2 : 2 - a ≠ 0 := by linarith
  have hdiff : highPassTop a - highPassGain a k =
      2 * (1 - a) ^ 2 * (1 + k) * a ^ 2 / (toneDamping a k * (2 - a) ^ 2) := by
    unfold highPassGain highPassTop topAnswer
    field_simp
    simp only [toneDamping]
    ring
  have hnonneg : 0 ≤ 2 * (1 - a) ^ 2 * (1 + k) * a ^ 2 / (toneDamping a k * (2 - a) ^ 2) := by
    have hk : 0 ≤ 1 + k := by linarith
    positivity
  linarith

theorem highPassGain_corner {a k : NUM} (ha0 : 0 < a) (ha1 : a < 1) (hk1 : k < 1) :
    (k < highPassCorner a → highPassTop a / 2 ≤ highPassGain a k) ∧
      (highPassCorner a < k → highPassGain a k ≤ highPassTop a / 2) := by
  have hD := toneDamping_pos ha1 hk1
  have hfactor : 0 ≤ 2 * (1 - a) ^ 2 * (1 + (1 - a) ^ 2) / (toneDamping a k * (2 - a) ^ 2) := by positivity
  have hdiff := highPassGain_sub_half_top ha0 ha1 hk1
  exact ⟨fun h => by linarith [mul_nonneg hfactor (sub_pos.mpr h).le],
    fun h => by linarith [mul_nonneg hfactor (sub_pos.mpr h).le]⟩

/-! ## The reference high-pass (R295) -/

/-- The coefficient of the one-pole at the setting `u` of P[23]. -/
def hpfCoef (c : Config) (u : NUM) : NUM := onePoleCoef c.num (curve c.num c.ctHpf u)

theorem hpfCorner_withHpfAmount (c : Config) (p : Vector NUM 26) (u : NUM) :
    onePoleCoef c.num (hpfCorner c (withHpfAmount p u)) = hpfCoef c u := by
  simp [hpfCorner, withHpfAmount, hpfCoef]

section Exact

variable {c : Config} (hr : c.MeetsRules) (hn : c.num.carrier = .rational)

include hr hn

theorem onePoleCoef_mem_of_pos {fc : NUM} (h : 0 < fc) : 0 < onePoleCoef c.num fc ∧ onePoleCoef c.num fc < 1 := by
  have hs := numericsSound_of_meetsRules hr
  have hneg : -Config.twoPiOverLn2 * fc / Config.fs < 0 := by
    unfold Config.twoPiOverLn2 Config.fs
    linarith
  rw [onePoleCoef, Numerics.sub_of_rational hn, Numerics.div_of_rational hn, Numerics.mul_of_rational hn]
  exact ⟨sub_pos.mpr (hs.exp2_lt_one _ hneg), sub_lt_self 1 (hs.exp2_pos _)⟩

theorem onePoleCoef_mono {fc fc' : NUM} (h : fc ≤ fc') : onePoleCoef c.num fc ≤ onePoleCoef c.num fc' := by
  have hs := numericsSound_of_meetsRules hr
  have harg : -Config.twoPiOverLn2 * fc' / Config.fs ≤ -Config.twoPiOverLn2 * fc / Config.fs := by
    unfold Config.twoPiOverLn2 Config.fs
    linarith
  simp only [onePoleCoef, Numerics.sub_of_rational hn, Numerics.div_of_rational hn, Numerics.mul_of_rational hn]
  linarith [hs.exp2_mono _ _ harg]

variable (hk : c.hpfKernel = .reference)

include hk

theorem hpfCoef_mem (u : NUM) : 0 < hpfCoef c u ∧ hpfCoef c u < 1 :=
  onePoleCoef_mem_of_pos hr hn (curve_of_tableValues (hr.hpf_corner hk).1 u)

theorem hpfCoef_mono {u u' : NUM} (h0 : 0 ≤ u) (h : u ≤ u') (h1 : u' ≤ 1) : hpfCoef c u ≤ hpfCoef c u' := by
  obtain rfl | hlt := h.eq_or_lt
  · exact le_rfl
  · exact onePoleCoef_mono hr hn ((hr.hpf_corner hk).2.1 u u' h0 hlt h1).le

/-- The corner rises with P[23], so its cosine falls. -/
theorem hpfCorner_anti {u u' : NUM} (h0 : 0 ≤ u) (h : u ≤ u') (h1 : u' ≤ 1) :
    highPassCorner (hpfCoef c u') ≤ highPassCorner (hpfCoef c u) := by
  obtain heq | hlt := (hpfCoef_mono hr hn hk h0 h h1).eq_or_lt
  · rw [heq]
  · exact (highPassCorner_lt (hpfCoef_mem hr hn hk u).1 hlt (hpfCoef_mem hr hn hk u').2).le

omit hr in
theorem hpfRun_reference (p : Vector NUM 26) (u : NUM) (h : HpfState) (x : Nat → NUM) :
    hpfRun c p u h x = highPass (hpfCoef c u) h.lp x := by
  have hadvance (h : HpfState) (v : NUM) :
      (hpfAdvance c (withHpfAmount p u) h v).lp = (pole (hpfCoef c u) h.lp v).1 := by
    simp only [hpfAdvance, hk, hpfCorner_withHpfAmount, onePole_of_rational hn, pole]
  have hstate (n : Nat) :
      (stateAfter (hpfSample c (withHpfAmount p u)) h x n).lp = stateAfter (pole (hpfCoef c u)) h.lp x n := by
    induction n with
    | zero => rfl
    | succ n ih => rw [stateAfter, hpfSample, hadvance, ih, stateAfter]
  funext n
  rw [hpfRun, outputAt, hpfSample, hpfOut_reference hk, Numerics.sub_of_rational hn, hadvance, hstate]
  rfl

omit hr in
/-- On silence a reset high-pass stays as it is. -/
theorem hpfAdvance_silent (p : Vector NUM 26) : hpfAdvance c p (hpfReset c) 0 = hpfReset c := by
  simp [hpfAdvance, hpfReset, hk, onePole_of_rational hn]

theorem hpfKernelMeetsRules_reference : HpfKernelMeetsRules c where
  k2_decays p h u x _ _ _ := by
    obtain ⟨ha0, ha1⟩ := hpfCoef_mem hr hn hk u
    rw [hpfRun_reference hn hk]
    exact highPass_const ha0 ha1.le h.lp x
  k2_corner := by
    have hmem := hpfCoef_mem hr hn hk
    have hcorner (u : NUM) := highPassCorner_mem (hmem u).1 (hmem u).2
    refine ⟨fun u => (highPassCorner (hpfCoef c u) : NUM), fun u u' h0 h h1 => ⟨?_, ?_, ?_⟩, ?_, fun p u _ _ => ?_⟩
    · beta_reduce
      exact_mod_cast (hcorner u').1
    · exact Rat.cast_le.mpr (hpfCorner_anti hr hn hk h0 h h1)
    · beta_reduce
      exact_mod_cast (hcorner u).2
    · exact Rat.cast_lt.mpr (highPassCorner_lt (hmem 0).1 (hr.hpf_corner hk).2.2 (hmem 1).2)
    obtain ⟨ha0, ha1⟩ := hmem u
    refine ⟨(highPassTop (hpfCoef c u) : NUM), fun k => (highPassGain (hpfCoef c u) k : NUM), ?_, fun h _ => ?_,
      fun k hk0 hk1 => ?_⟩
    · exact Rat.cast_pos.mpr (highPassTop_pos ha0 ha1)
    · rw [funext (hpfRun_reference hn hk p u h)]
      exact ⟨hasTopGain_highPass ha0 ha1 h.lp, fun k hk0 hk1 => hasGain_highPass ha0 ha1 hk0 hk1 h.lp⟩
    · have hle : highPassGain (hpfCoef c u) k ≤ 2 * highPassTop (hpfCoef c u) := by
        linarith [highPassGain_le_top ha0 ha1 hk0 hk1, highPassTop_pos ha0 ha1]
      obtain ⟨habove, hbelow⟩ := highPassGain_corner ha0 ha1 hk1
      beta_reduce
      exact ⟨by exact_mod_cast hle, by exact_mod_cast habove, by exact_mod_cast hbelow⟩
  k4 p u _ n := by
    have hstate (n : Nat) :
        stateAfter (fun h v => hpfSample c (withHpfAmount p v) h 0) (hpfReset c) u n = hpfReset c := by
      induction n with
      | zero => rfl
      | succ n ih => rw [stateAfter, ih, hpfSample, hpfAdvance_silent hn hk]
    rw [outputAt, hstate, hpfSample, hpfAdvance_silent hn hk, hpfOut_reference hk, Numerics.sub_of_rational hn]
    exact sub_zero 0

end Exact

end Sys2Proof.Proofs

/-! SUPPORT. The reference soft clipper and chorus meet their rules (R300, R304, R305): the outputs of the chorus are no
larger than its line and its input, and silence fills the line once round. -/

namespace Sys2Proof.Proofs

open Sys2Proof.Machine

/-! ## The soft clipper (R300) -/

theorem softClipMeetsRules_reference {c : Config} (hr : c.MeetsRules) (hn : c.num.carrier = .rational)
    (hk : c.softClip = .reference) : SoftClipMeetsRules c := by
  have hs := numericsSound_of_meetsRules hr
  have hclip (x : NUM) : softClip c x = tanh c.num (3 * x) := by
    rw [softClip_reference hk, Numerics.mul_of_rational hn]
  refine ⟨fun x => abs_le.mp (softClip_le hr x), fun x y hxy => ?_, ?_, fun lo hi bs h => ?_, fun e h => ?_⟩
  · rw [hclip, hclip]
    exact hs.tanh_mono _ _ (by linarith)
  · rw [hclip, mul_zero, hs.tanh_zero]
  · rw [hk] at h
    cases h
  · rw [hk] at h
    cases h

/-! ## A delay line within a bound (R305) -/

/-- Every cell of the line is within the bound. -/
def LineWithin (B : NUM) (cells : List NUM) : Prop := ∀ x ∈ cells, |x| ≤ B

theorem LineWithin.set {B x : NUM} {cells : List NUM} (h : LineWithin B cells) (hx : |x| ≤ B) (w : Nat) :
    LineWithin B (cells.set w x) := by
  intro y hy
  rcases List.mem_or_eq_of_mem_set hy with hy | rfl
  · exact h y hy
  · exact hx

theorem LineWithin.lineAt_le {B : NUM} {cells : List NUM} (h : LineWithin B cells) (hB : 0 ≤ B) (len w : Nat)
    (back : Int) : |lineAt cells len w back| ≤ B := by
  unfold lineAt
  generalize (((w : Int) - back) % (len : Int)).toNat = i
  rw [List.getD_eq_getElem?_getD]
  cases hcell : cells[i]? with
  | none => simpa using hB
  | some y => exact h y (List.mem_of_getElem? hcell)

/-- A tap lies between two cells. -/
theorem LineWithin.tap_le {n : Numerics} (hn : n.carrier = .rational) {B : NUM} {cells : List NUM}
    (h : LineWithin B cells) (hB : 0 ≤ B) (len w : Nat) (d : NUM) : |tap n cells len w d| ≤ B := by
  have hpole (a b t : NUM) : lin n a b t = onePole n a t b := by
    rw [lin, Numerics.add_of_rational hn, Numerics.mul_of_rational hn, Numerics.sub_of_rational hn,
      onePole_of_rational hn, mul_comm]
  have hpart : 0 ≤ n.sub d (floor d) ∧ n.sub d (floor d) ≤ 1 := ⟨(frac_mem hn d).1, (frac_mem hn d).2.le⟩
  rw [tap, hpole]
  exact abs_onePole_le hn hpart (h.lineAt_le hB _ _ _) (h.lineAt_le hB _ _ _)

/-- The chorus yields means of its input and its taps. -/
theorem LineWithin.chorusOut_le {c : Config} (hn : c.num.carrier = .rational) {B : NUM} {cells : List NUM}
    (h : LineWithin B cells) {x : NUM} (hx : |x| ≤ B) (w : Nat) (ph0 ph1 dir : NUM) (en1 en2 : Bool) :
    |chorusOut c cells w ph0 ph1 dir x en1 en2| ≤ B := by
  have hB : 0 ≤ B := (abs_nonneg x).trans hx
  have htap (ph : NUM) : |chorusTap c cells w ph dir| ≤ B := h.tap_le hn hB _ _ _
  obtain ⟨h0, h0'⟩ := abs_le.mp (htap ph0)
  obtain ⟨h1, h1'⟩ := abs_le.mp (htap ph1)
  obtain ⟨hx0, hx1⟩ := abs_le.mp hx
  simp only [chorusOut, Numerics.div_of_rational hn, Numerics.add_of_rational hn]
  split
  case h_1 => exact hx
  all_goals exact abs_le.mpr ⟨by linarith, by linarith⟩

/-! ## Silence (R304 K5, R311) -/

/-- The state `n` silent frames after one whose write index was `w0`: the cells written since are 0. -/
structure Silenced (len w0 n : Nat) (s : ChorusState) : Prop where
  length : s.line.length = len
  w : s.w = (w0 + n) % len
  cells : ∀ i, i < n → s.line[(w0 + i) % len]? = some 0

/-- Once round the line every cell has been written. -/
theorem Silenced.lineWithin {len w0 n : Nat} {s : ChorusState} (h : Silenced len w0 n s) (hw : w0 < len) (hn : len ≤ n) :
    LineWithin 0 s.line := by
  intro x hx
  obtain ⟨j, hj, rfl⟩ := List.mem_iff_getElem.mp hx
  have hjlen : j < len := h.length ▸ hj
  have hturn : (w0 + (j + len - w0) % len) % len = j := by
    rw [Nat.add_mod_mod, Nat.add_sub_cancel' (by omega), Nat.add_mod_right, Nat.mod_eq_of_lt hjlen]
  have hcell := h.cells ((j + len - w0) % len) ((Nat.mod_lt _ (by omega)).trans_le hn)
  rw [hturn, List.getElem?_eq_getElem hj, Option.some_inj] at hcell
  rw [hcell, abs_zero]

section Exact

variable {c : Config} (hk : c.chorusKernel = .reference)

include hk

theorem chorusAdvance_line (s : ChorusState) (x : NUM) (en1 en2 : Bool) :
    (chorusAdvance c s x en1 en2).line = s.line.set s.w x := by
  simp only [chorusAdvance, hk]

theorem chorusAdvance_w (s : ChorusState) (x : NUM) (en1 en2 : Bool) :
    (chorusAdvance c s x en1 en2).w = (s.w + 1) % c.chLen := by
  simp only [chorusAdvance, hk]

theorem silenced_advance {w0 n : Nat} {s : ChorusState} (h : Silenced c.chLen w0 n s) (hw : w0 < c.chLen)
    (en1 en2 : Bool) : Silenced c.chLen w0 (n + 1) (chorusAdvance c s 0 en1 en2) := by
  obtain ⟨hlen, hsw, hcells⟩ := h
  refine ⟨(chorusAdvance_length ..).trans hlen, ?_, fun i hi => ?_⟩
  · rw [chorusAdvance_w hk, hsw, Nat.mod_add_mod, Nat.add_assoc]
  · rw [chorusAdvance_line hk, List.getElem?_set]
    split_ifs with hcell hin
    · rfl
    · exact absurd (hlen ▸ hsw ▸ Nat.mod_lt _ (by omega)) hin
    · refine hcells i (lt_of_le_of_ne (Nat.lt_succ_iff.mp hi) fun hlast => hcell ?_)
      rw [hsw, hlast]

theorem chorusAdvance_ne (hlen : 2 ≤ c.chLen) {s : ChorusState} (hw : s.w < c.chLen) (x : NUM) (en1 en2 : Bool) :
    chorusAdvance c s x en1 en2 ≠ s := by
  intro h
  have hstay : (s.w + 1) % c.chLen = s.w := (chorusAdvance_w hk s x en1 en2).symm.trans (congrArg ChorusState.w h)
  rcases Nat.lt_or_ge (s.w + 1) c.chLen with hlt | hge
  · rw [Nat.mod_eq_of_lt hlt] at hstay
    omega
  · rw [show s.w + 1 = c.chLen by omega, Nat.mod_self] at hstay
    omega

variable (hn : c.num.carrier = .rational)

include hn

/-- A sample of the chorus keeps to the bound of its line and its input. -/
theorem chorusSample_le {B : NUM} {s : ChorusState} (h : LineWithin B s.line) {x : NUM} (hx : |x| ≤ B)
    (en1 en2 : Bool) :
    |(chorusSample c s x en1 en2).2.1| ≤ B ∧ |(chorusSample c s x en1 en2).2.2| ≤ B := by
  have hline : LineWithin B (chorusAdvance c s x en1 en2).line := by
    rw [chorusAdvance_line hk]
    exact h.set hx s.w
  simp only [chorusSample, hk]
  exact ⟨hline.chorusOut_le hn hx _ _ _ _ _ _, hline.chorusOut_le hn hx _ _ _ _ _ _⟩

theorem chorusSample_silent {s : ChorusState} (h : LineWithin 0 s.line) (en1 en2 : Bool) :
    (chorusSample c s 0 en1 en2).2 = (0, 0) := by
  obtain ⟨hl, hright⟩ := chorusSample_le hk hn h (x := 0) (by norm_num) en1 en2
  exact Prod.ext (abs_nonpos_iff.mp hl) (abs_nonpos_iff.mp hright)

omit hk in
theorem reachable_chorus (hr : c.MeetsRules) {s : ChorusState}
    (h : Reachable (ChorusNext c) (initialChorus c) s) : s.InRange c := by
  induction h with
  | refl => exact initialChorus_inRange hr
  | tail _ hnext ih =>
    obtain ⟨x, en1, en2, hx, rfl⟩ := hnext
    exact chorusAdvance_inRange hn ih hx en1 en2

omit hn in
/-- The states of the chorus on silence. -/
theorem silenced_stateAfter {s : ChorusState} (h : s.InRange c) (en : Nat → Bool × Bool) (n : Nat) :
    Silenced c.chLen s.w n (stateAfter (fun s en => chorusSample c s 0 en.1 en.2) s en n) := by
  obtain ⟨hlen, -, hw, -⟩ := h
  induction n with
  | zero => exact ⟨hlen, (Nat.mod_eq_of_lt hw).symm, fun i hi => absurd hi (Nat.not_lt_zero i)⟩
  | succ n ih =>
    rw [stateAfter, chorusSample_state]
    exact silenced_advance hk ih hw _ _

/-- Once round the line the chorus is silent on silence. -/
theorem chorusRun_silent {s : ChorusState} (h : s.InRange c) (en : Nat → Bool × Bool) {n : Nat} (hlong : c.chLen ≤ n) :
    chorusRun c s en n = (0, 0) :=
  chorusSample_silent hk hn ((silenced_stateAfter hk h en n).lineWithin h.2.2.1 hlong) _ _

/-- A silent line stays silent on silence. -/
theorem chorusRun_silent_of_line {s : ChorusState} (h : LineWithin 0 s.line) (en : Nat → Bool × Bool) (n : Nat) :
    chorusRun c s en n = (0, 0) := by
  have hstate (n : Nat) : LineWithin 0 (stateAfter (fun s en => chorusSample c s 0 en.1 en.2) s en n).line := by
    induction n with
    | zero => exact h
    | succ n ih =>
      rw [stateAfter, chorusSample_state, chorusAdvance_line hk]
      exact ih.set (by norm_num) _
  exact chorusSample_silent hk hn (hstate n) _ _

theorem chorusKernelMeetsRules_reference (hr : c.MeetsRules) : ChorusKernelMeetsRules c where
  k3 s x en1 en2 hreach _ := by
    obtain ⟨hdepth, hnear, hfar⟩ := hr.chorus_taps
    have hlen : (2 : NUM) ≤ c.chLen := by linarith
    obtain ⟨-, -, hw, -⟩ := reachable_chorus hn hr hreach
    exact chorusAdvance_ne hk (by exact_mod_cast hlen) hw x en1 en2
  k4 s x en1 en2 hreach hx := chorusSample_le hk hn (reachable_chorus hn hr hreach).2.1 hx en1 en2
  bypass s x := chorusSample_bypass c s x
  k5_silent en n := by
    refine chorusRun_silent_of_line hk hn (fun x hx => ?_) en n
    rw [List.eq_of_mem_replicate hx, abs_zero]
  k5_fades s en hreach := by
    have hsilent (n : Nat) (hlong : c.chLen ≤ n) := chorusRun_silent hk hn (reachable_chorus hn hr hreach) en hlong
    refine ⟨fun e he => ⟨c.chLen, fun n hlong => ?_⟩, fun e he => ⟨c.chLen, fun n hlong => ?_⟩⟩
    · simpa [hsilent n hlong] using he.le
    · simpa [hsilent n hlong] using he.le

end Exact

end Sys2Proof.Proofs

/-! SUPPORT. The shared kernels meet their rules (R269, R294, R300, R304). -/

namespace Sys2Proof.Proofs

open Sys2Proof.Machine

/-- Settles O48: the reference kernels meet their rules, and of a program, a table or a closed form they are asked. -/
theorem sharedKernelsMeetTheirRules : Obligations.SharedKernelsMeetTheirRules := by
  intro c hc
  have hn : c.exact.num.carrier = .rational := Config.exact_carrier c
  refine ⟨?_, ?_, ?_, ?_⟩
  · by_cases hk : c.exact.lfoKernel = .reference
    · exact lfoKernelMeetsRules_reference hc.rules hn hk
    · exact hc.rules.lfo_kernel hk
  · by_cases hk : c.exact.hpfKernel = .reference
    · exact hpfKernelMeetsRules_reference hc.rules hn hk
    · exact hc.rules.hpf_kernel hk
  · by_cases hk : c.exact.softClip = .reference
    · exact softClipMeetsRules_reference hc.rules hn hk
    · exact hc.rules.soft_clip hk
  · by_cases hk : c.exact.chorusKernel = .reference
    · exact chorusKernelMeetsRules_reference hk hn hc.rules
    · exact hc.rules.chorus_kernel hk

end Sys2Proof.Proofs

/-! SUPPORT. 0 in every NUM (R9), whatever it rounds to, and the sample 0 (R337). -/

namespace Sys2Proof.Proofs

open Sys2Proof.Machine

/-! ## 0 in every NUM (R9) -/

section Zero

variable (n : Numerics)

@[simp] theorem numerics_add_zero_zero : n.add 0 0 = 0 := by simp [Sys2Proof.Numerics.add]

@[simp] theorem numerics_sub_zero_zero : n.sub 0 0 = 0 := by simp [Sys2Proof.Numerics.sub]

@[simp] theorem numerics_mul_zero (a : NUM) : n.mul a 0 = 0 := by simp [Sys2Proof.Numerics.mul]

@[simp] theorem numerics_zero_mul (a : NUM) : n.mul 0 a = 0 := by simp [Sys2Proof.Numerics.mul]

@[simp] theorem numerics_zero_div (a : NUM) : n.div 0 a = 0 := by simp [Sys2Proof.Numerics.div]

@[simp] theorem onePole_zero (a : NUM) : onePole n 0 a 0 = 0 := by simp [onePole]

@[simp] theorem lin_zero_zero (t : NUM) : lin n 0 0 t = 0 := by simp [lin]

theorem expTail_zero {one : Nat} (m k : Nat) : expTail one m k 0 = one := by
  cases m <;> simp [expTail]

theorem exp2Series_zero : exp2Series n 0 = 1 := by
  have hone : (fixedOne n : NUM) ≠ 0 := by simp [fixedOne]
  simp [exp2Series, exp2Mantissa, expTail_zero, floor_eq_intFloor, pow2_eq_zpow, hone]

/-- `tanh` is 0 at 0 at every precision. -/
theorem tanh_zero_of_any : tanh n 0 = 0 := by
  simp [tanh_of_nonneg, tanhAbs, exp2Series_zero, tanhQuotient, floor_eq_intFloor]

/-! ## The sample 0 (R337) -/

theorem roundEven_intCast (z : Int) : roundEven z = z := by simp [roundEven, floor_eq_intFloor]

/-- A half on a grid of steps `2^-k` is itself, or 0 where the steps are whole. -/
theorem half_on_grid (k : Nat) :
    (roundEven (1/2 * pow2 k) : NUM) * pow2 (-k) = 0 ∨ (roundEven (1/2 * pow2 k) : NUM) * pow2 (-k) = 1/2 := by
  cases k with
  | zero =>
    have h : roundEven (1/2 * pow2 (0 : Nat)) = 0 := by decide +kernel
    exact .inl (by rw [h]; simp)
  | succ m =>
    have h : (1/2 * pow2 (m + 1 : Nat) : NUM) = ((2 ^ m : Int) : NUM) := by
      rw [pow2_eq_zpow, zpow_natCast, pow_succ]
      push_cast
      ring
    refine .inr ?_
    rw [h, roundEven_intCast, pow2_eq_zpow, zpow_neg, zpow_natCast, pow_succ]
    push_cast
    field_simp

theorem round_half : n.round (1/2) = 0 ∨ n.round (1/2) = 1/2 := by
  unfold Sys2Proof.Numerics.round Sys2Proof.Numerics.toCarrier
  cases n.carrier with
  | rational => exact .inr rfl
  | fixed bits => exact half_on_grid bits
  | float digits least most =>
    have hlog : floorLog2 (1/2 : NUM).num.natAbs (1/2 : NUM).den = -1 := by decide +kernel
    obtain ⟨k, hk⟩ : ∃ k : Nat, min ((digits : Int) - -1) least = k :=
      Int.eq_ofNat_of_zero_le (le_min (by omega) (by omega))
    have hsmall {r : NUM} (h : r = 0 ∨ r = 1/2) : |r| < pow2 (most + 1) := by
      have hone : (1 : NUM) ≤ pow2 (most + 1) := by
        rw [pow2_eq_zpow]
        exact one_le_zpow₀ one_le_two (by omega)
      rcases h with rfl | rfl <;> norm_num <;> linarith
    have hgrid := half_on_grid k
    dsimp only
    rw [if_neg (by norm_num), hlog, hk, if_pos (hsmall hgrid)]
    exact hgrid

/-- Half a unit rounded down is 0, in every NUM. -/
theorem floor_zero_add_half : floor (n.add 0 (1/2)) = 0 := by
  have hsum : n.add 0 (1/2) = 0 ∨ n.add 0 (1/2) = 1/2 := by
    rw [Sys2Proof.Numerics.add, Numerics.round_zero, zero_add]
    rcases round_half n with h | h
    · exact .inl (by rw [h, Numerics.round_zero])
    · rw [h]; exact round_half n
  rcases hsum with h | h <;> rw [h] <;> decide +kernel

end Zero

theorem pcmRound_zero (c : Config) : pcmRound c 0 = 0 := by
  unfold pcmRound
  cases c.pcmRound with
  | truncate => simp [floor_eq_intFloor]
  | nearest => simp only [floor_zero_add_half]; decide

/-- 0 times a number is 0, or a NaN where the number is too large for the carrier. -/
theorem mulWide_zero (n : Numerics) (a : NUM) :
    n.mulWide (.fin 0) (.fin a) = .fin 0 ∨ n.mulWide (.fin 0) (.fin a) = .nan := by
  simp only [Sys2Proof.Numerics.mulWide, Sys2Proof.Numerics.operand, Numerics.toCarrier_zero]
  cases n.toCarrier a with
  | fin x => exact .inl (by simp)
  | posInf | negInf | nan => exact .inr (by simp [F32.sign])

theorem pcmScaled_zero (c : Config) (volume : NUM) :
    pcmScaled c volume (.fin 0) = .fin 0 ∨ pcmScaled c volume (.fin 0) = .nan := by
  have hstep {x : F32} (hx : x = .fin 0 ∨ x = .nan) (a : NUM) :
      c.num.mulWide x (.fin a) = .fin 0 ∨ c.num.mulWide x (.fin a) = .nan := by
    rcases hx with rfl | rfl
    · exact mulWide_zero c.num a
    · exact .inr (Numerics.mulWide_nan _ _)
  exact hstep (hstep (hstep (.inl rfl) c.masterGain) volume) Config.pcmScale

/-- Silence is the sample 0 under every gain and volume. -/
theorem pcmConvert_zero (c : Config) (volume : NUM) : pcmConvert c volume (.fin 0) = 0 := by
  unfold pcmConvert
  rcases pcmScaled_zero c volume with h | h
  · have htop : ¬ (Config.pcmMax : NUM) ≤ 0 := by decide +kernel
    have hbottom : ¬ (0 : NUM) ≤ (Config.pcmMin : NUM) := by decide +kernel
    simp only [h, if_neg htop, if_neg hbottom, pcmRound_zero]
  · simp only [h]

theorem pcmFrames_silent (c : Config) (volume : NUM) (n : Nat) :
    pcmFrames c volume (List.replicate n (0, 0)) = List.replicate n 0 := by
  have hword : frameWord 0 0 = 0 := by decide
  simp only [pcmFrames, List.map_replicate, pcmConvert_zero, hword]

end Sys2Proof.Proofs

/-! SUPPORT. The effects chain on silence (R294, R300, R304, R305, R311), and the bound of its output (R310). -/

namespace Sys2Proof.Proofs

open Sys2Proof.Machine

/-! ## A unit on a constant input -/

/-- A unit run over a block of one input: the sequence of its states and outputs. -/
theorem scanBlock_replicate {σ α β : Type} (f : σ → α → σ × β) (s : σ) (a : α) (n : Nat) :
    scanBlock f s (List.replicate n a) =
      (stateAfter f s (fun _ => a) n, (List.range n).map (outputAt f s fun _ => a)) := by
  induction n with
  | zero => rfl
  | succ n ih =>
    rw [List.replicate_succ', scanBlock_append, ih, List.range_succ, List.map_append]
    rfl

/-- Units that do the same on their inputs yield the same. -/
theorem outputAt_congr {σ α α' β : Type} {f : σ → α → σ × β} {g : σ → α' → σ × β} {x : Nat → α} {y : Nat → α'}
    (h : ∀ s i, f s (x i) = g s (y i)) (s : σ) (n : Nat) : outputAt f s x n = outputAt g s y n := by
  have hstate (n : Nat) : stateAfter f s x n = stateAfter g s y n := by
    induction n with
    | zero => rfl
    | succ n ih => rw [stateAfter, ih, h, stateAfter]
  rw [outputAt, hstate, h, outputAt]

/-! ## The reference effects on silence, in every NUM (R294, R300, R305) -/

section Reference

variable {c : Config}

theorem softClip_zero (hk : c.softClip = .reference) : softClip c 0 = 0 := by
  rw [softClip_reference hk, numerics_mul_zero, tanh_zero_of_any]

/-- On silence a reset high-pass stays as it is and yields 0. -/
theorem hpfSample_silent (hk : c.hpfKernel = .reference) (p : Vector NUM 26) :
    hpfSample c p (hpfReset c) 0 = (hpfReset c, 0) := by
  simp [hpfSample, hpfAdvance, hpfOut, hpfReset, hk]

theorem stateAfter_hpfSample_silent (hk : c.hpfKernel = .reference) (p : Vector NUM 26) (n : Nat) :
    stateAfter (hpfSample c p) (hpfReset c) (fun _ => 0) n = hpfReset c := by
  induction n with
  | zero => rfl
  | succ n ih => rw [stateAfter, ih, hpfSample_silent hk]

theorem lineAt_zero {cells : List NUM} (h : LineWithin 0 cells) (len w : Nat) (back : Int) :
    lineAt cells len w back = 0 :=
  abs_nonpos_iff.mp (h.lineAt_le le_rfl len w back)

theorem chorusOut_zero {cells : List NUM} (h : LineWithin 0 cells) (w : Nat) (ph0 ph1 dir : NUM) (en1 en2 : Bool) :
    chorusOut c cells w ph0 ph1 dir 0 en1 en2 = 0 := by
  have htap (ph : NUM) : chorusTap c cells w ph dir = 0 := by
    rw [chorusTap, tap, lineAt_zero h, lineAt_zero h, lin_zero_zero]
  cases en1 <;> cases en2 <;> simp [chorusOut, htap]

theorem chorusAdvance_zero_line (hk : c.chorusKernel = .reference) {s : ChorusState} (h : LineWithin 0 s.line)
    (en1 en2 : Bool) : LineWithin 0 (chorusAdvance c s 0 en1 en2).line := by
  rw [chorusAdvance_line hk]
  exact h.set (by norm_num) s.w

/-- `chorusSample_silent` in every NUM. -/
theorem chorusSample_zero (hk : c.chorusKernel = .reference) {s : ChorusState} (h : LineWithin 0 s.line)
    (en1 en2 : Bool) : (chorusSample c s 0 en1 en2).2 = (0, 0) := by
  have hline := chorusAdvance_zero_line hk h en1 en2
  simp only [chorusSample, hk, chorusOut_zero hline]

theorem lineWithin_replicate_zero (n : Nat) : LineWithin 0 (List.replicate n 0) := by
  intro x hx
  rw [List.eq_of_mem_replicate hx, abs_zero]

theorem chorusRun_initial_silent (hk : c.chorusKernel = .reference) (en : Nat → Bool × Bool) (n : Nat) :
    chorusRun c (initialChorus c) en n = (0, 0) := by
  have hline (n : Nat) :
      LineWithin 0 (stateAfter (fun s en => chorusSample c s 0 en.1 en.2) (initialChorus c) en n).line := by
    induction n with
    | zero => exact lineWithin_replicate_zero c.chLen
    | succ n ih =>
      rw [stateAfter, chorusSample_state]
      exact chorusAdvance_zero_line hk ih _ _
  exact chorusSample_zero hk (hline n) _ _

/-- What a chorus holds but for the write index and the phases, which R305 moves in every frame. -/
def rewound (s : ChorusState) : ChorusState := { s with w := 0, ph0 := 0, ph1 := 0 }

theorem rewound_chorusAdvance (hk : c.chorusKernel = .reference) {s : ChorusState}
    (h : rewound s = initialChorus c) (en1 en2 : Bool) : rewound (chorusAdvance c s 0 en1 en2) = initialChorus c := by
  have hline : s.line = List.replicate c.chLen 0 := congrArg ChorusState.line h
  have hset : (chorusAdvance c s 0 en1 en2).line = s.line := by
    rw [chorusAdvance_line hk, hline, List.set_replicate_self]
  calc rewound (chorusAdvance c s 0 en1 en2)
      = { rewound s with line := (chorusAdvance c s 0 en1 en2).line } := by simp only [rewound, chorusAdvance, hk]
    _ = rewound s := by rw [hset]; rfl
    _ = initialChorus c := h

theorem rewound_stateAfter (hk : c.chorusKernel = .reference) (en : Nat → Bool × Bool) (n : Nat) :
    rewound (stateAfter (fun s en => chorusSample c s 0 en.1 en.2) (initialChorus c) en n) = initialChorus c := by
  induction n with
  | zero => rfl
  | succ n ih =>
    rw [stateAfter, chorusSample_state]
    exact rewound_chorusAdvance hk ih _ _

end Reference

/-- Settles O49: once round the line every cell is 0, and the taps of a line of zeros are 0. -/
theorem chorusLineEmpties : Obligations.ChorusLineEmpties := by
  intro c s en1 en2 n hk hlen hw hn r
  have hr : r.1 = stateAfter (fun st x => chorusSample c st x en1 en2) s (fun _ => 0) n :=
    congrArg Prod.fst (scanBlock_replicate _ s 0 n)
  have hsilenced (n : Nat) :
      Silenced c.chLen s.w n (stateAfter (fun st x => chorusSample c st x en1 en2) s (fun _ => 0) n) := by
    induction n with
    | zero => exact ⟨hlen, (Nat.mod_eq_of_lt hw).symm, fun i hi => absurd hi (Nat.not_lt_zero i)⟩
    | succ n ih =>
      rw [stateAfter, chorusSample_state]
      exact silenced_advance hk ih hw _ _
  have hrun : Silenced c.chLen s.w n r.1 := hr ▸ hsilenced n
  have hzero : LineWithin 0 r.1.line := hrun.lineWithin hw hn
  exact ⟨List.eq_replicate_iff.mpr ⟨hrun.length, fun x hx => abs_nonpos_iff.mp (hzero x hx)⟩,
    fun a b => chorusSample_zero hk hzero a b⟩

/-! ## The bound of the chain (R300, R304, R310) -/

/-- A chorus in range yields numbers of [-1, 1]: means of cells, outputs held there, or the input. -/
theorem chorusSample_unit {c : Config} (hn : c.num.carrier = .rational) {s : ChorusState} (h : s.InRange c) {x : NUM}
    (hx : |x| ≤ 1) (en1 en2 : Bool) :
    |(chorusSample c s x en1 en2).2.1| ≤ 1 ∧ |(chorusSample c s x en1 en2).2.2| ≤ 1 := by
  obtain ⟨-, hline, -⟩ := h
  cases hk : c.chorusKernel with
  | reference => exact chorusSample_le hk hn hline hx en1 en2
  | program k =>
    simp only [chorusSample, hk]
    split_ifs
    · exact ⟨abs_le.mpr (clampUnit_mem _), abs_le.mpr (clampUnit_mem _)⟩
    · exact ⟨hx, hx⟩

/-- Settles O41: the clipped sample is in [-1, 1] whatever the mix, and the chorus keeps to that. -/
theorem renderOutputIsBounded : Obligations.RenderOutputIsBounded := by
  intro s d n hc hn hs hrange
  have hr := meetsRules_of_valid hc hn
  obtain ⟨-, -, -, -, hchorus⟩ := hrange hs
  rw [renderBlock_eq, blockEffects]
  refine (scanBlock_keeps (f := effectsFrame s.cfg s.eng.params) (P := fun m => m.2.InRange s.cfg)
    (A := fun _ => True) (fun m x hm _ => ?_) (s := (s.eng.hp, s.eng.chorus)) hchorus fun _ _ => trivial).2
  simp only [effectsFrame, chorusSample_state]
  exact ⟨chorusAdvance_inRange hn hm (softClip_le hr _) _ _, chorusSample_unit hn hm (softClip_le hr _) _ _⟩

end Sys2Proof.Proofs

/-! SUPPORT. A block rendered straight after `CREATE` (R421, R425): every unit at rest, every frame 0. -/

namespace Sys2Proof.Proofs

open Sys2Proof.Machine

/-! ## The effects chain of a fresh instance (R294, R300, R304, R421) -/

/-- The stages of the effects chain yield 0 on silence from their reset states. -/
structure EffectsSilent (c : Config) (p : Vector NUM 26) : Prop where
  hpf : ∀ n, outputAt (hpfSample c p) (hpfReset c) (fun _ => 0) n = 0
  clip : softClip c 0 = 0
  chorus : ∀ en n, chorusRun c (initialChorus c) en n = (0, 0)

theorem effectsSilent_of_reference {c : Config} (hh : c.hpfKernel = .reference) (hs : c.softClip = .reference)
    (hc : c.chorusKernel = .reference) (p : Vector NUM 26) : EffectsSilent c p where
  hpf n := by rw [outputAt, stateAfter_hpfSample_silent hh, hpfSample_silent hh]
  clip := softClip_zero hs
  chorus := chorusRun_initial_silent hc

/-- The rules ask silence of every kernel: R294 K4, R300 K2 and R304 K5. -/
theorem effectsSilent_of_valid {c : Config} (hc : c.Valid) (hn : c.num.carrier = .rational) {p : Vector NUM 26}
    (hp : 0 ≤ p[23] ∧ p[23] ≤ 1) : EffectsSilent c p := by
  have ⟨_, hhpf, hclip, hchorus⟩ := sharedKernelsMeetTheirRules c hc
  rw [Config.exact_of_rational hn] at hhpf hclip hchorus
  have hown : withHpfAmount p p[23] = p := Vector.set_getElem_self _
  have hsame (n : Nat) : outputAt (hpfSample c p) (hpfReset c) (fun _ => 0) n =
      outputAt (fun h v => hpfSample c (withHpfAmount p v) h 0) (hpfReset c) (fun _ => p[23]) n :=
    outputAt_congr (fun s _ => by rw [hown]) _ n
  exact ⟨fun n => (hsame n).trans (hhpf.k4 p _ (fun _ => hp) n), hclip.k2_zero, hchorus.k5_silent⟩

section Silent

variable {c : Config} {p : Vector NUM 26} (h : EffectsSilent c p)

include h

/-- On silence each stage of the chain goes its own way, for each hands 0 to the next. -/
theorem EffectsSilent.stateAfter_eq (n : Nat) :
    stateAfter (effectsFrame c p) (hpfReset c, initialChorus c) (fun _ => 0) n =
      (stateAfter (hpfSample c p) (hpfReset c) (fun _ => 0) n,
        stateAfter (fun s en => chorusSample c s 0 en.1 en.2) (initialChorus c)
          (fun _ => (chorusEn1 p, chorusEn2 p)) n) := by
  induction n with
  | zero => rfl
  | succ n ih =>
    have hhpf := h.hpf n
    rw [outputAt] at hhpf
    rw [stateAfter, ih]
    simp only [effectsFrame, hhpf, numerics_zero_mul, h.clip, stateAfter]

theorem EffectsSilent.outputAt_eq (n : Nat) :
    outputAt (effectsFrame c p) (hpfReset c, initialChorus c) (fun _ => 0) n = (0, 0) := by
  have hhpf := h.hpf n
  have hchorus := h.chorus (fun _ => (chorusEn1 p, chorusEn2 p)) n
  rw [outputAt] at hhpf
  rw [chorusRun, outputAt] at hchorus
  rw [outputAt, h.stateAfter_eq]
  simp only [effectsFrame, hhpf, numerics_zero_mul, h.clip, hchorus]

end Silent

/-! ## A block of a fresh instance (R322, R421, R425) -/

theorem advance_atRest {c : Config} (hn : c.num.carrier = .rational) (x : NUM) :
    (Smoother.atRest x).advance c = Smoother.atRest x := by
  simp [Smoother.advance, Smoother.atRest, onePole_of_rational hn]

section Fresh

variable (c : Config) (draws : Draws) (t n : Nat)

/-- No slot of an idle pool is rendered. -/
theorem blockVoices_initialEngine :
    blockVoices c draws t n (initialEngine c) = ((initialEngine c).voices, List.replicate n 0) := by
  have hidle (k : Fin 6) : ((initialEngine c).voices[k]).active = false := by
    simp [initialEngine, initialVoice]
  rw [blockVoices]
  refine List.foldl_fixed' (fun k => ?_) slots
  rw [renderSlot, hidle k, if_neg Bool.false_ne_true]

theorem blockLfo_initialEngine : (blockLfo c draws t n (initialEngine c)).1 = (initialEngine c).lfo := by
  rw [blockLfo]
  refine scanBlock_induct (f := lfoFrame c _ draws) (P := fun l => l = lfoShutdown c) (fun l t hl => ?_) _ _ rfl
  rw [hl, lfoFrame, lfoAdvance_off rfl]
  rfl

theorem blockEffects_initialEngine :
    blockEffects c draws t n (initialEngine c) =
      (stateAfter (effectsFrame c c.paramDefault) (hpfReset c, initialChorus c) (fun _ => 0) n,
        (List.range n).map (outputAt (effectsFrame c c.paramDefault) (hpfReset c, initialChorus c) fun _ => 0)) := by
  rw [blockEffects, blockVoices_initialEngine]
  exact scanBlock_replicate _ _ _ n

variable {c}

theorem blockMods_initialEngine (hn : c.num.carrier = .rational) :
    (blockMods c draws t n (initialEngine c)).1 = (initialEngine c).sm := by
  rw [blockMods]
  refine scanBlock_induct (f := sharedMod c) (P := fun m => m = initialSm c) (fun m x hm => ?_) _ _ rfl
  rw [hm, sharedMod]
  simp only [smAdvanceAll, initialSm, advance_atRest hn]

theorem renderBlock_initialEngine_out (h : EffectsSilent c c.paramDefault) :
    (renderBlock c draws t n (initialEngine c)).out = List.replicate n (0, 0) := by
  rw [renderBlock_eq, blockEffects_initialEngine]
  simp only [funext h.outputAt_eq, List.map_const', List.length_range]

/-- The reference effects move nothing of a fresh engine but what R305 moves in every frame. -/
theorem renderBlock_initialEngine_eng (hh : c.hpfKernel = .reference) (hs : c.softClip = .reference)
    (hc : c.chorusKernel = .reference) (hn : c.num.carrier = .rational) :
    let e := (renderBlock c draws t n (initialEngine c)).eng
    { e with chorus := rewound e.chorus } = initialEngine c := by
  have hfx := (effectsSilent_of_reference hh hs hc c.paramDefault).stateAfter_eq n
  simp only [renderBlock_eq, blockLfo_initialEngine, blockMods_initialEngine _ _ _ hn, blockVoices_initialEngine,
    blockEffects_initialEngine, hfx, stateAfter_hpfSample_silent hh, rewound_stateAfter hc]
  rfl

end Fresh

/-- Settles O38: no voice of a fresh instance is active, so every stage of the effects chain runs on silence from its
reset state. -/
theorem freshInstanceIsSilent : Obligations.FreshInstanceIsSilent := by
  intro s b
  obtain ⟨t, ht⟩ : ∃ t, exec .create s = .next t := ⟨_, rfl⟩
  obtain ⟨heng, hvalid⟩ := exec_create_leaves ht
  have hcfg : t.cfg = s.cfg := (exec_answers ht).cfg
  refine ⟨t, _, ht, exec_render_of_valid hvalid b, ?_⟩
  simp only [State.respond_pcmPort, State.respond_eng, renderFrames_pcmPort, renderFrames_eng, hcfg, heng]
  refine ⟨fun hconfig => ?_, fun ⟨hh, hs, hc⟩ hn => renderBlock_initialEngine_eng _ _ _ hh hs hc hn⟩
  have hsilent : EffectsSilent s.cfg s.cfg.paramDefault := by
    rcases hconfig with ⟨hh, hs, hc⟩ | ⟨hc, hn⟩
    · exact effectsSilent_of_reference hh hs hc _
    · exact effectsSilent_of_valid hc hn
        (paramDefault_mem (meetsRules_of_valid hc hn) 23 (by decide) (by decide))
  rw [renderBlock_initialEngine_out _ _ _ hsilent, pcmFrames_silent]
  rfl

end Sys2Proof.Proofs

/-! SUPPORT. `CREATE` (R421), and the sub-commands of `PARAM` without a fan-out (R350). -/

namespace Sys2Proof.Proofs

open Sys2Proof.Machine

/-! ## CREATE (R421) -/

theorem exec_create (s : State) :
    exec .create s = .next ({ s.setEng (initialEngine s.cfg) with instValid := true }.ok opCreate) := rfl

/-- A voice of a fresh engine, its PWM source and VCA mode read off the tags of the defaults (R34, R421). -/
theorem initialVoice_eq (c : Config) :
    initialVoice c =
      let d := c.paramDefault
      { active := false, note := none, freq := 0, vel := 0, bendMul := 1
        vcaMode := if tag d[1] 2 = 0 then .envelopeGated else .gateSwitched
        pwmSrc := if tag d[3] 3 = 0 then .manual else if tag d[3] 3 = 1 then .lfoModulated else .envelopeModulated
        osc := initialOsc c, vcf := vcfReset c, envA := envShutdown c, envG := envShutdown c
        pwmSm := .atRest d[2] } := rfl

/-- Settles O11: the engine `CREATE` leaves is `initialEngine`, whose parts are the rows of the table. -/
theorem createResult : Obligations.CreateResult := by
  intro s d
  have hword : responseWord opCreate statusOk 0 0 = 0x0100000000000000 := by decide
  rw [exec_create, initialEngine, initialVoice_eq, ← hword]
  rfl

/-! ## The sub-commands without a fan-out (R352, R353, R360, R368 to R371, R373 to R377) -/

theorem paramHi_of_ne_three {k : Fin 26} (h3 : k.val ≠ 3) : paramHi k = if k = 8 then 2 else 1 := by
  simp [paramHi, h3, Fin.ext_iff]

/-- A sub-command that has no effect besides its register write. -/
theorem exec_plainParam {k : Fin 26} {i : Word32 → Instr} (h3 : k.val ≠ 3)
    (hi : ∀ v s, exec (i v) s = paramWith k noEffect v s) (v : Word32) (x : NUM) (s : State) (hs : s.instValid = true)
    (hx : numOperand v 0 (if k = 8 then 2 else 1) = some x) :
    exec (i v) s = .next { s with
      eng := { s.eng with params := s.eng.params.set k x }
      rspPort := s.rspPort ++ [0x2000000000000000] } := by
  rw [hi, paramWith_of_some hs ((paramHi_of_ne_three h3).symm ▸ hx), ok_param]
  rfl

/-- Settles O24: each of the twelve commands is one. -/
theorem plainParamResult : Obligations.PlainParamResult := by
  unfold Obligations.PlainParamResult
  simp only [List.forall_mem_cons]
  refine ⟨?_, ?_, ?_, ?_, ?_, ?_, ?_, ?_, ?_, ?_, ?_, ?_, fun p hp => absurd hp List.not_mem_nil⟩
  · exact exec_plainParam (k := 0) (by decide) fun _ _ => rfl
  · exact exec_plainParam (k := 1) (by decide) fun _ _ => rfl
  · exact exec_plainParam (k := 8) (by decide) fun _ _ => rfl
  · exact exec_plainParam (k := 16) (by decide) fun _ _ => rfl
  · exact exec_plainParam (k := 17) (by decide) fun _ _ => rfl
  · exact exec_plainParam (k := 18) (by decide) fun _ _ => rfl
  · exact exec_plainParam (k := 19) (by decide) fun _ _ => rfl
  · exact exec_plainParam (k := 21) (by decide) fun _ _ => rfl
  · exact exec_plainParam (k := 22) (by decide) fun _ _ => rfl
  · exact exec_plainParam (k := 23) (by decide) fun _ _ => rfl
  · exact exec_plainParam (k := 24) (by decide) fun _ _ => rfl
  · exact exec_plainParam (k := 25) (by decide) fun _ _ => rfl

end Sys2Proof.Proofs

/-! SUPPORT. The one response of every command word and its status (R84, R92, R401, R403). -/

namespace Sys2Proof.Proofs

open Sys2Proof.Machine

/-! ## One response of a given opcode and status (R92) -/

/-- The answer is a next state with one more response, of the opcode and the status given. -/
def AnsweredWith (op status : Word8) (s : State) (res : Result) : Prop :=
  ∃ t n v, res = .next t ∧ t.cmdPort = s.cmdPort ∧ t.rspPort = s.rspPort ++ [responseWord op status n v]

theorem answeredWith_respond {s t : State} (hcmd : t.cmdPort = s.cmdPort) (hrsp : t.rspPort = s.rspPort)
    (op status : Word8) (n : Nat) (v : Word32) : AnsweredWith op status s (.next (t.respond op status n v)) :=
  ⟨_, BitVec.ofNat 16 n, v, rfl, hcmd, by rw [State.respond_rspPort, hrsp]⟩

theorem answeredWith_ok {s t : State} (hcmd : t.cmdPort = s.cmdPort) (hrsp : t.rspPort = s.rspPort) (op : Word8) :
    AnsweredWith op statusOk s (.next (t.ok op)) := answeredWith_respond hcmd hrsp op statusOk 0 0

/-- The status of a legal opcode: NOINST without an instance unless it is `CREATE`, else the one given (R403). -/
def guardedStatus (s : State) (op status : Word8) : Word8 :=
  if s.instValid = false ∧ op ≠ opCreate then statusNoinst else status

theorem guardedStatus_of_valid {s : State} (hs : s.instValid = true) (op status : Word8) :
    guardedStatus s op status = status := if_neg fun h => Bool.noConfusion (hs.symm.trans h.1)

theorem guardedStatus_of_invalid {s : State} (hs : s.instValid = false) {op : Word8} (hop : op ≠ opCreate)
    (status : Word8) : guardedStatus s op status = statusNoinst := if_pos ⟨hs, hop⟩

theorem guardedStatus_create (s : State) (status : Word8) : guardedStatus s opCreate status = status :=
  if_neg fun h => h.2 rfl

/-- NOINST comes before what a command answers with an instance (R110). -/
theorem answeredWith_withInstance {op status : Word8} {s : State} {body : State → State} (hop : op ≠ opCreate)
    (h : AnsweredWith op status s (.next (body s))) :
    AnsweredWith op (guardedStatus s op status) s (withInstance op s body) := by
  cases hs : s.instValid with
  | true => rw [withInstance_of_valid hs, guardedStatus_of_valid hs]; exact h
  | false =>
    rw [withInstance_of_invalid hs, guardedStatus_of_invalid hs hop]
    exact answeredWith_respond rfl rfl _ _ _ _

/-- What is answered about an operand of field V: BADVAL for a NaN (R88, R401). -/
def nanStatus (v : Word32) : Word8 :=
  if v.extractLsb' 23 8 = 0xFF ∧ v.extractLsb' 0 23 ≠ 0 then statusBadval else statusOk

theorem nanStatus_eq (v : Word32) (lo hi : NUM) :
    nanStatus v = if numOperand v lo hi = none then statusBadval else statusOk := by
  simp only [nanStatus, numOperand_eq_none_iff, patExp, patFrac, ne_eq, ← BitVec.toNat_inj]
  rfl

/-- BADVAL is answered for a NaN and for no other value. -/
theorem answeredWith_withNum {op : Word8} {v : Word32} {lo hi : NUM} {s : State} {body : NUM → State}
    (h : ∀ x, AnsweredWith op statusOk s (.next (body x))) :
    AnsweredWith op (nanStatus v) s (.next (withNum op v lo hi s body)) := by
  rw [nanStatus_eq v lo hi]
  cases hx : numOperand v lo hi with
  | none => rw [withNum_of_none hx, if_pos rfl]; exact answeredWith_respond rfl rfl _ _ _ _
  | some x => rw [withNum_of_some hx, if_neg nofun]; exact h x

theorem answeredWith_paramWith (k : Fin 26) (effect : ParamEffect) (v : Word32) (s : State) :
    AnsweredWith opParam (guardedStatus s opParam (nanStatus v)) s (paramWith k effect v s) :=
  answeredWith_withInstance (by decide) (answeredWith_withNum fun _ => answeredWith_ok rfl rfl _)

/-! ## The answer of a command that is no sub-command -/

/-- The status of a command that is no sub-command of `PARAM`, where there is an instance. -/
def instrStatus : Instr → Word8
  | .noteon _ v | .setvol v => nanStatus v
  | .getp index => if 25 < index then statusBadidx else statusOk
  | _ => statusOk

theorem exec_answeredWith {i : Instr} (hi : paramIndex i = none) (s : State) :
    AnsweredWith (opcodeOf i) (guardedStatus s (opcodeOf i) (instrStatus i)) s (exec i s) := by
  cases i with
  | create =>
    rw [opcodeOf, guardedStatus_create]
    exact answeredWith_ok (t := { s.setEng (initialEngine s.cfg) with instValid := true }) rfl rfl _
  | destroy =>
    rw [exec, execDestroy]
    exact answeredWith_withInstance (by decide) (answeredWith_ok rfl rfl _)
  | getvc =>
    rw [exec, execGetvc]
    exact answeredWith_withInstance (by decide) (answeredWith_respond rfl rfl _ _ _ _)
  | noteon =>
    rw [exec, execNoteon, opcodeOf]
    exact answeredWith_withInstance (by decide) (answeredWith_withNum fun _ => answeredWith_ok rfl rfl _)
  | noteoff =>
    rw [exec, execNoteoff, opcodeOf]
    exact answeredWith_withInstance (by decide) (answeredWith_ok rfl rfl _)
  | cc =>
    rw [exec, execCc, opcodeOf]
    refine answeredWith_withInstance (by decide) ?_
    split
    · exact answeredWith_ok rfl rfl _
    · exact answeredWith_ok rfl rfl _
  | bend =>
    rw [exec, execBend, opcodeOf]
    exact answeredWith_withInstance (by decide) (answeredWith_ok rfl rfl _)
  | getp index =>
    rw [exec, execGetp, opcodeOf]
    refine answeredWith_withInstance (by decide) ?_
    by_cases hindex : 25 < index
    · rw [instrStatus, if_pos hindex, dif_neg (by omega)]
      exact answeredWith_respond rfl rfl _ _ _ _
    · rw [instrStatus, if_neg hindex, dif_pos (by omega)]
      exact answeredWith_respond rfl rfl _ _ _ _
  | setvol =>
    rw [exec, execSetvol, opcodeOf]
    exact answeredWith_withInstance (by decide) (answeredWith_withNum fun _ => answeredWith_ok rfl rfl _)
  | getvol =>
    rw [exec, execGetvol]
    exact answeredWith_withInstance (by decide) (answeredWith_respond rfl rfl _ _ _ _)
  | setoct =>
    rw [exec, execSetoct, opcodeOf]
    exact answeredWith_withInstance (by decide) (answeredWith_ok rfl rfl _)
  | getoct =>
    rw [exec, execGetoct]
    exact answeredWith_withInstance (by decide) (answeredWith_respond rfl rfl _ _ _ _)
  | render b =>
    rw [opcodeOf]
    cases hs : s.instValid with
    | true =>
      rw [exec_render_of_valid hs, guardedStatus_of_valid hs]
      exact answeredWith_respond (renderFrames_cmdPort _ _ _) (renderFrames_rspPort _ _ _) _ _ _ _
    | false =>
      rw [exec_render_of_invalid hs, guardedStatus_of_invalid hs (by decide)]
      exact answeredWith_respond rfl rfl _ _ _ _
  | _ => cases hi

/-! ## The status of a word (R403) -/

/-- The status of a word of a legal opcode where there is an instance: BADIDX, else BADVAL, else OK. -/
def operandStatus (op a : Word8) (v : Word32) : Word8 :=
  if (op = opParam ∨ op = opGetp) ∧ 25 < a.toNat then statusBadidx
  else if op = opNoteon ∨ op = opParam ∨ op = opSetvol then nanStatus v
  else statusOk

/-- The commands that read no index of a register and no number of field V. -/
theorem operandStatus_of_notMem {op : Word8} (h : op ∉ [opParam, opGetp, opNoteon, opSetvol]) (a : Word8) (v : Word32) :
    operandStatus op a v = statusOk := by
  simp only [List.mem_cons, List.not_mem_nil, or_false, not_or] at h
  obtain ⟨hparam, hgetp, hnoteon, hsetvol⟩ := h
  simp only [operandStatus, hparam, hgetp, hnoteon, hsetvol, or_self, false_and, if_false]

/-- The commands other than `PARAM` that read a number of field V. -/
theorem operandStatus_num {op : Word8} (h : op = opNoteon ∨ op = opSetvol) (a : Word8) (v : Word32) :
    operandStatus op a v = nanStatus v := by
  rcases h with rfl | rfl <;> exact (if_neg fun h => absurd h.1 (by decide)).trans (if_pos (by decide))

theorem operandStatus_getp (a : Word8) (v : Word32) :
    operandStatus opGetp a v = if 25 < a.toNat then statusBadidx else statusOk := by
  have hnum : ¬(opGetp = opNoteon ∨ opGetp = opParam ∨ opGetp = opSetvol) := by decide
  simp only [operandStatus, or_true, hnum, true_and, if_false]

theorem operandStatus_param (a : Word8) (v : Word32) :
    operandStatus opParam a v = if 25 < a.toNat then statusBadidx else nanStatus v := by
  simp only [operandStatus, true_or, or_true, true_and, if_true]

/-- The command of a legal opcode other than `PARAM`, in the order of `opcodes`: its status is that of its operands. -/
theorem decodeFields_status {op : Word8} (h : op ∈ opcodes) (hparam : op ≠ opParam) (a : Word8) (b : Word16)
    (v : Word32) :
    ∃ i, decodeFields op a b v = .instr i ∧ opcodeOf i = op ∧ paramIndex i = none ∧
      instrStatus i = operandStatus op a v := by
  have hplain {op : Word8} (hop : op ∉ [opParam, opGetp, opNoteon, opSetvol]) : statusOk = operandStatus op a v :=
    (operandStatus_of_notMem hop a v).symm
  simp only [opcodes, List.mem_cons, hparam, false_or, List.not_mem_nil, or_false] at h
  rcases h with rfl | rfl | rfl | rfl | rfl | rfl | rfl | rfl | rfl | rfl | rfl | rfl | rfl
  · exact ⟨.create, rfl, rfl, rfl, hplain (by decide)⟩
  · exact ⟨.destroy, rfl, rfl, rfl, hplain (by decide)⟩
  · exact ⟨.getvc, rfl, rfl, rfl, hplain (by decide)⟩
  · exact ⟨.noteon a.toNat v, rfl, rfl, rfl, (operandStatus_num (.inl rfl) a v).symm⟩
  · exact ⟨.noteoff a.toNat, rfl, rfl, rfl, hplain (by decide)⟩
  · exact ⟨.cc a.toNat b.toNat, rfl, rfl, rfl, hplain (by decide)⟩
  · exact ⟨.bend b.toNat, rfl, rfl, rfl, hplain (by decide)⟩
  · exact ⟨.getp a.toNat, rfl, rfl, rfl, (operandStatus_getp a v).symm⟩
  · exact ⟨.setvol v, rfl, rfl, rfl, (operandStatus_num (.inr rfl) a v).symm⟩
  · exact ⟨.getvol, rfl, rfl, rfl, hplain (by decide)⟩
  · exact ⟨.setoct b.toInt, rfl, rfl, rfl, hplain (by decide)⟩
  · exact ⟨.getoct, rfl, rfl, rfl, hplain (by decide)⟩
  · exact ⟨.render b.toNat, rfl, rfl, rfl, hplain (by decide)⟩

/-- `PARAM`: an index above 25 is rejected, any other has its sub-command (R84, R350). -/
theorem decodeParam_answeredWith (a : Word8) (v : Word32) (s : State) :
    AnsweredWith opParam (guardedStatus s opParam (operandStatus opParam a v)) s (runDecoded (decodeParam a v) s) := by
  rw [operandStatus_param, decodeParam]
  by_cases ha : 25 < a.toNat
  · rw [paramInstr_of_gt ha, if_pos ha, runDecoded, rejectIndex]
    refine answeredWith_withInstance (by decide) ?_
    exact answeredWith_respond rfl rfl _ _ _ _
  · obtain ⟨i, hi, hexec⟩ := paramInstr_exec ⟨a.toNat, by omega⟩ v
    simp only [hi, if_neg ha, runDecoded, hexec]
    exact answeredWith_paramWith _ _ _ _

/-- Every word is answered once: BADOP, or the guarded status of its operands. -/
theorem runDecoded_answeredWith (op a : Word8) (b : Word16) (v : Word32) (s : State) :
    AnsweredWith op (if op ∉ opcodes then statusBadop else guardedStatus s op (operandStatus op a v)) s
      (runDecoded (decodeFields op a b v) s) := by
  by_cases hmem : op ∈ opcodes
  case neg =>
    rw [decodeFields_of_notMem hmem, if_pos hmem]
    exact answeredWith_respond rfl rfl _ _ _ _
  rw [if_neg (not_not_intro hmem)]
  by_cases hparam : op = opParam
  case pos =>
    subst hparam
    exact decodeParam_answeredWith a v s
  case neg =>
    obtain ⟨i, hdecode, rfl, hindex, hstatus⟩ := decodeFields_status hmem hparam a b v
    rw [hdecode, ← hstatus]
    exact exec_answeredWith hindex s

/-- OP is bits 63:56 of a response (R92). -/
theorem responseWord_op (op status : Word8) (n : Word16) (v : Word32) :
    (responseWord op status n v).extractLsb' 56 8 = op := fieldOp_packCommand op status n v

/-- Settles O8: the one response of the word, read field by field. -/
theorem everyCommandAnsweredByPriority : Obligations.EveryCommandAnsweredByPriority := by
  intro s w rest hport
  obtain ⟨t, n, v, hstep, hcmd, hrsp⟩ :=
    runDecoded_answeredWith (fieldOp w) (fieldA w) (fieldB w) (fieldV w) { s with cmdPort := rest }
  refine ⟨t, _, (step_of_cons hport).trans hstep, hcmd, hrsp, responseWord_op _ _ _ _, ?_⟩
  rw [responseWord_status, guardedStatus, operandStatus, nanStatus, ← ite_and]
  rfl

end Sys2Proof.Proofs

/-! SUPPORT. The samples on the PCM port (R337). -/

namespace Sys2Proof.Proofs

open Sys2Proof.Machine

/-! ## Signs and products (R9, R337) -/

theorem one_le_roundEven {q : NUM} (h : 1 ≤ q) : 1 ≤ roundEven q := by
  have hfloor : 1 ≤ floor q := Int.le_floor.mpr (by exact_mod_cast h)
  unfold roundEven
  dsimp only
  split_ifs <;> omega

/-- A number from 2^14 to 2^15 keeps its sign in every carrier, an infinity included. -/
theorem sign_toCarrier_pcmScale (n : Numerics) : (n.toCarrier Config.pcmScale).sign = 1 := by
  have hgrid {k j : Int} (hk : -14 ≤ k) : 0 < (roundEven (Config.pcmScale * pow2 k) : NUM) * pow2 j := by
    have hone : (1 : NUM) ≤ Config.pcmScale * pow2 k := by
      have hpow : (2 : NUM) ^ (-14 : Int) ≤ 2 ^ k := zpow_le_zpow_right₀ one_le_two hk
      rw [pow2_eq_zpow, Config.pcmScale]
      norm_num at hpow ⊢
      linarith
    have hround : (0 : NUM) < roundEven (Config.pcmScale * pow2 k) := by
      exact_mod_cast one_le_roundEven hone
    rw [pow2_eq_zpow j]
    exact mul_pos hround (zpow_pos two_pos j)
  have hsign {q : NUM} (h : 0 < q) : (F32.fin q).sign = 1 := by
    rw [F32.sign, if_neg h.not_gt, if_pos h]
  have hscale : (0 : NUM) < Config.pcmScale := by norm_num [Config.pcmScale]
  unfold Sys2Proof.Numerics.toCarrier
  cases n.carrier with
  | rational => exact hsign hscale
  | fixed bits => exact hsign (hgrid (by omega))
  | float digits least most =>
    have hlog : floorLog2 Config.pcmScale.num.natAbs Config.pcmScale.den = 14 := by decide +kernel
    dsimp only
    rw [if_neg hscale.ne', hlog]
    split_ifs with hlt hneg
    · exact hsign (hgrid (by omega))
    · exact absurd hneg hscale.not_gt
    · rfl

/-- An infinity times a positive number is the infinity. -/
theorem mulWide_posInf {n : Numerics} {a : NUM} (h : (n.toCarrier a).sign = 1) : n.mulWide .posInf (.fin a) = .posInf := by
  have hinf : F32.posInf.sign = 1 := rfl
  simp [Sys2Proof.Numerics.mulWide, Sys2Proof.Numerics.operand, h, hinf]

theorem mulWide_negInf {n : Numerics} {a : NUM} (h : (n.toCarrier a).sign = 1) : n.mulWide .negInf (.fin a) = .negInf := by
  have hinf : F32.negInf.sign = -1 := rfl
  simp [Sys2Proof.Numerics.mulWide, Sys2Proof.Numerics.operand, h, hinf]

/-! ## The conversion by what the scaled sample is (R337) -/

section Conversion

variable {c : Config} {volume : NUM} {x : F32}

theorem pcmConvert_of_posInf (h : pcmScaled c volume x = .posInf) : pcmConvert c volume x = 32767 := by
  simp only [pcmConvert, h, Config.pcmMax]

theorem pcmConvert_of_negInf (h : pcmScaled c volume x = .negInf) : pcmConvert c volume x = -32768 := by
  simp only [pcmConvert, h, Config.pcmMin]

theorem pcmConvert_of_nan (h : pcmScaled c volume x = .nan) : pcmConvert c volume x = 0 := by
  simp only [pcmConvert, h]

/-- A number saturates at both ends and is rounded in between. -/
theorem pcmConvert_of_fin {s : NUM} (h : pcmScaled c volume x = .fin s) :
    pcmConvert c volume x = if 32767 ≤ s then 32767 else if s ≤ -32768 then -32768 else pcmRound c s := by
  simp only [pcmConvert, h, Config.pcmMax, Config.pcmMin]
  norm_num

theorem pcmRound_truncate (hr : c.pcmRound = .truncate) (s : NUM) :
    pcmRound c s = if 0 ≤ s then ⌊s⌋ else -⌊-s⌋ := by
  simp only [pcmRound, hr, floor_eq_intFloor]

theorem pcmRound_nearest (hr : c.pcmRound = .nearest) (s : NUM) :
    pcmRound c s = clampInt ⌊c.num.add s (1/2)⌋ (-32768) 32767 := by
  simp only [pcmRound, hr, floor_eq_intFloor, Config.pcmMax, Config.pcmMin]

/-- In exact arithmetic a sum of `nearest` never comes past an end. -/
theorem pcmRound_nearest_of_rational (hr : c.pcmRound = .nearest) (hn : c.num.carrier = .rational) {s : NUM}
    (h0 : -32768 < s) (h1 : s < 32767) : pcmRound c s = ⌊s + 1/2⌋ := by
  have hlow : -32768 ≤ ⌊s + 1/2⌋ := Int.le_floor.mpr (by push_cast; linarith)
  have hup : ⌊s + 1/2⌋ < 32768 := Int.floor_lt.mpr (by push_cast; linarith)
  rw [pcmRound_nearest hr, Numerics.add_of_rational hn, clampInt_eq_max_min (by norm_num)]
  omega

/-- A number between the ends is rounded to a sample. -/
theorem pcmRound_mem {s : NUM} (h0 : -32768 < s) (h1 : s < 32767) : -32768 ≤ pcmRound c s ∧ pcmRound c s ≤ 32767 := by
  cases hr : c.pcmRound with
  | truncate =>
    rw [pcmRound_truncate hr]
    split_ifs with hs
    · have hlow : 0 ≤ ⌊s⌋ := Int.floor_nonneg.mpr hs
      have hup : ⌊s⌋ < 32767 := Int.floor_lt.mpr (by exact_mod_cast h1)
      omega
    · have hlow : 0 ≤ ⌊-s⌋ := Int.floor_nonneg.mpr (by linarith)
      have hup : ⌊-s⌋ < 32768 := Int.floor_lt.mpr (by push_cast; linarith)
      omega
  | nearest =>
    rw [pcmRound_nearest hr]
    exact clampInt_mem (by norm_num)

theorem pcmConvert_mem (c : Config) (volume : NUM) (x : F32) :
    -32768 ≤ pcmConvert c volume x ∧ pcmConvert c volume x ≤ 32767 := by
  cases hx : pcmScaled c volume x with
  | posInf => rw [pcmConvert_of_posInf hx]; omega
  | negInf => rw [pcmConvert_of_negInf hx]; omega
  | nan => rw [pcmConvert_of_nan hx]; omega
  | fin s =>
    rw [pcmConvert_of_fin hx]
    split_ifs with htop hbottom
    · omega
    · omega
    · exact pcmRound_mem (not_le.mp hbottom) (not_le.mp htop)

end Conversion

/-- In exact arithmetic a sample of at most full scale comes to no less than -32767. -/
theorem pcmConvert_ge_of_rational {c : Config} (hn : c.num.carrier = .rational) {volume : NUM} {x : F32} {s : NUM}
    (h : pcmScaled c volume x = .fin s) (hs : -32767 ≤ s) : -32767 ≤ pcmConvert c volume x := by
  rw [pcmConvert_of_fin h]
  split_ifs with htop hbottom
  · omega
  · linarith
  · cases hr : c.pcmRound with
    | truncate =>
      rw [pcmRound_truncate hr]
      split_ifs with hpos
      · have hlow : 0 ≤ ⌊s⌋ := Int.floor_nonneg.mpr hpos
        omega
      · have hup : ⌊-s⌋ < 32768 := Int.floor_lt.mpr (by push_cast; linarith)
        omega
    | nearest =>
      rw [pcmRound_nearest_of_rational hr hn (by linarith) (not_le.mp htop)]
      exact Int.le_floor.mpr (by push_cast; linarith)

/-- Settles O42: one lemma per form of the scaled sample and of the rounding. -/
theorem pcmConversion : Obligations.PcmConversion := by
  refine fun c volume => ⟨fun x s hx => ⟨fun htop => ?_, fun hbottom => ?_, fun h0 h1 hr => ?_, fun h0 h1 hr hn => ?_⟩,
    fun x => ⟨pcmConvert_of_posInf, pcmConvert_of_negInf, pcmConvert_of_nan, pcmConvert_mem c volume x⟩,
    pcmConvert_nan c volume, fun hgain hvolume => ⟨pcmConvert_of_posInf ?_, pcmConvert_of_negInf ?_⟩,
    fun hn x => ⟨pcmScaled_of_rational hn volume x, fun h0 h1 hx => ⟨?_, (pcmConvert_mem c volume _).2⟩⟩⟩
  · rw [pcmConvert_of_fin hx, if_pos htop]
  · rw [pcmConvert_of_fin hx, if_neg (by linarith), if_pos hbottom]
  · rw [pcmConvert_of_fin hx, if_neg h1.not_ge, if_neg h0.not_ge, pcmRound_truncate hr]
  · rw [pcmConvert_of_fin hx, if_neg h1.not_ge, if_neg h0.not_ge, pcmRound_nearest_of_rational hr hn h0 h1]
  · rw [pcmScaled, mulWide_posInf hgain, mulWide_posInf hvolume, mulWide_posInf (sign_toCarrier_pcmScale _)]
  · rw [pcmScaled, mulWide_negInf hgain, mulWide_negInf hvolume, mulWide_negInf (sign_toCarrier_pcmScale _)]
  · refine pcmConvert_ge_of_rational hn (pcmScaled_of_rational hn volume x) ?_
    have hscaled : |x * (c.masterGain * volume)| ≤ 1 := by
      rw [abs_mul, abs_of_nonneg h0]
      exact mul_le_one₀ hx h0 h1
    rw [mul_assoc x, Config.pcmScale]
    linarith [(abs_le.mp hscaled).1]

end Sys2Proof.Proofs

/-! SUPPORT. The check at the end of a block (R332), a block of no frames (R340), and a block in two parts (R338,
R341). -/

namespace Sys2Proof.Proofs

open Sys2Proof.Machine

/-! ## The check at the end of a block (R332) -/

/-- What the deactivation check makes of a voice whose current envelope is Idle. -/
def endedVoice (c : Config) (v : Voice) : Voice :=
  { v with active := false, note := none, envA := envShutdown c, envG := envShutdown c, osc := oscReset c v.osc
           vcf := vcfReset c }

theorem checkActive_of_inactive {v : Voice} (h : v.active = false) (c : Config) : checkActive c v = v :=
  if_neg (Bool.eq_false_iff.mp h)

theorem checkActive_of_live {v : Voice} (h : (currentEnv v).stage ≠ .idle) (c : Config) : checkActive c v = v := by
  have hcheck : deactivationCheck c v = v := by
    rcases deactivationCheck_cases c v with ⟨-, heq⟩ | ⟨hidle, -⟩
    · exact heq
    · exact absurd (by simpa [envActive] using hidle) h
  rw [checkActive, hcheck, ite_self]

theorem checkActive_of_idle {v : Voice} (ha : v.active = true) (h : (currentEnv v).stage = .idle) (c : Config) :
    checkActive c v = endedVoice c v := by
  rw [checkActive, if_pos ha]
  rcases deactivationCheck_cases c v with ⟨hlive, -⟩ | ⟨-, heq⟩
  · simp [envActive, h] at hlive
  · exact heq

/-! ## A block of no frames (R340) -/

theorem frameCount_of_le {b : Nat} (h : b ≤ 256) : frameCount b = b := Nat.min_eq_left h

/-- The check leaves a consistent voice alone: if it is active its current envelope is live. -/
theorem checkActive_of_consistent {c : Config} {b : NUM} {v : Voice} (h : v.Consistent c b) : checkActive c v = v := by
  cases ha : v.active with
  | false => exact checkActive_of_inactive ha c
  | true => exact checkActive_of_live ((consistent_of_active ha).mp h).2 c

theorem renderBlock_zero {c : Config} {e : Engine} (h : PoolConsistent c e) (draws : Draws) (t : Nat) :
    renderBlock c draws t 0 e = { eng := e, out := [] } := by
  rw [renderBlock_eq_unitwiseBlock, List.range'_zero, unitwiseBlock_nil, endOfBlock_eq]
  have hvoices : e.voices.map (checkActive c) = e.voices :=
    pool_ext fun k => (Vector.getElem_map _ _).trans (checkActive_of_consistent (h k))
  rw [hvoices]

/-- Settles O37: a block of no frames checks the voices and does nothing else. -/
theorem renderOfNoFrames : Obligations.RenderOfNoFrames := by
  refine fun s => ⟨fun hs hvoices => ?_, fun hs => ?_⟩
  · have hword : responseWord opRender statusOk 0 0 = 0x3000000000000000 := by decide
    rw [exec_render_of_valid hs, frameCount_of_le (Nat.zero_le _), renderFrames, renderBlock_zero (hvoices hs), ← hword]
    simp only [pcmFrames, List.map_nil, State.emit, State.setEng, State.respond, List.append_nil, Nat.add_zero]
    rfl
  · have hword : responseWord opRender statusNoinst 0 0 = 0x3001000000000000 := by decide
    rw [exec_render_of_invalid hs, frameCount_of_le (Nat.zero_le _), List.replicate_zero, ← hword]
    simp only [State.emit, State.respond, List.append_nil]
    rfl

/-! ## A voice run on after its current envelope is Idle (R190 K3, R202, R332) -/

/-- The current envelope stays the same one and is advanced under its configuration. -/
theorem currentEnv_advanceEnvelopes (c : Config) (p : Vector NUM 26) (v : Voice) :
    ∃ cfg, currentEnv (advanceEnvelopes c p v) = envAdvance c cfg (currentEnv v) := by
  unfold currentEnv advanceEnvelopes
  cases v.vcaMode
  · exact ⟨_, rfl⟩
  · exact ⟨_, rfl⟩

theorem currentEnv_advanceEnvelopes_of_idle {v : Voice} (h : (currentEnv v).stage = .idle) (c : Config)
    (p : Vector NUM 26) :
    (currentEnv (advanceEnvelopes c p v)).stage = .idle ∧ (currentEnv (advanceEnvelopes c p v)).level = 0 := by
  obtain ⟨cfg, hcur⟩ := currentEnv_advanceEnvelopes c p v
  rw [hcur, envAdvance_idle h]
  exact ⟨h, rfl⟩

/-- A reset oscillator does not show how far it was advanced: its levels are at their targets (R215, R217). -/
theorem oscReset_oscAdvance (c : Config) (o : OscState) (f pwm d : NUM) :
    oscReset c (oscAdvance c o f pwm d) = oscReset c o := by
  obtain ⟨hsaw, hpulse, hsub, hnoise⟩ := oscAdvance_levels c o f pwm d
  simp only [oscReset, oscSnap, hsaw, hpulse, hsub, hnoise]
  rfl

theorem voiceFrame_stays_idle {c : Config} {v : Voice} (h : (currentEnv v).stage = .idle) (p : Vector NUM 26) (b : NUM)
    (d : Nat → NUM) (m : ModFrame) : (currentEnv (voiceFrame c p b d v m).1).stage = .idle :=
  (currentEnv_advanceEnvelopes_of_idle h c p).1

/-- It adds nothing to the mix. -/
theorem voiceFrame_silent_of_idle {c : Config} (hn : c.num.carrier = .rational) {v : Voice}
    (h : (currentEnv v).stage = .idle) (p : Vector NUM 26) (b : NUM) (d : Nat → NUM) (m : ModFrame) :
    (voiceFrame c p b d v m).2 = 0 := by
  have hlevel := (currentEnv_advanceEnvelopes_of_idle h c p).2
  simp only [voiceFrame, hlevel, Numerics.div_of_rational hn, Numerics.prod_of_rational hn, List.prod_cons, zero_mul,
    mul_zero, zero_div]

/-- A sample changes nothing of what the voice is once ended, but the value of its PWM-depth smoother. -/
theorem endedVoice_voiceFrame (c : Config) (p : Vector NUM 26) (b : NUM) (d : Nat → NUM) (v : Voice) (m : ModFrame) :
    endedVoice c (voiceFrame c p b d v m).1 = { endedVoice c v with pwmSm := v.pwmSm.advance c } := by
  obtain ⟨f, pwm, x, hosc⟩ : ∃ f pwm x, (voiceFrame c p b d v m).1.osc = oscAdvance c v.osc f pwm x := ⟨_, _, _, rfl⟩
  have hreset : oscReset c (voiceFrame c p b d v m).1.osc = oscReset c v.osc := by rw [hosc, oscReset_oscAdvance]
  rw [endedVoice, hreset]
  rfl

/-! ## The same frames on a pool whose ended voices are deactivated, and on one where they run on -/

/-- The voice `v` runs on though its current envelope is Idle, and `w` is `v` deactivated some frames ago. -/
structure RunsOn (c : Config) (v w : Voice) : Prop where
  active : v.active = true
  idle : (currentEnv v).stage = .idle
  ended : { endedVoice c v with pwmSm := w.pwmSm } = w
  target : w.pwmSm.t = v.pwmSm.t

theorem runsOn_endedVoice {c : Config} {v : Voice} (ha : v.active = true) (h : (currentEnv v).stage = .idle) :
    RunsOn c v (endedVoice c v) := ⟨ha, h, rfl, rfl⟩

theorem runsOn_voiceFrame {c : Config} {v w : Voice} (h : RunsOn c v w) (p : Vector NUM 26) (b : NUM) (d : Nat → NUM)
    (m : ModFrame) : RunsOn c (voiceFrame c p b d v m).1 w where
  active := h.active
  idle := voiceFrame_stays_idle h.idle p b d m
  ended := by rw [endedVoice_voiceFrame]; exact h.ended
  target := h.target

theorem RunsOn.inactive {c : Config} {v w : Voice} (h : RunsOn c v w) : w.active = false := by rw [← h.ended]; rfl

/-- Once both are checked they differ in the value of the PWM-depth smoother alone. -/
theorem RunsOn.checked {c : Config} {v w : Voice} (h : RunsOn c v w) :
    checkActive c w =
      { checkActive c v with pwmSm := { (checkActive c v).pwmSm with y := (checkActive c w).pwmSm.y } } := by
  have hpwm : { (endedVoice c v).pwmSm with y := w.pwmSm.y } = w.pwmSm := congrArg (Smoother.mk w.pwmSm.y) h.target.symm
  rw [checkActive_of_idle h.active h.idle, checkActive_of_inactive h.inactive, hpwm, h.ended]

/-- Two engines that differ only in that the voices not in `kept` run on in the first and are deactivated in the
second. -/
structure SplitPool (c : Config) (kept : Fin 6 → Prop) (e e' : Engine) : Prop where
  rest : { e with voices := e'.voices } = e'
  same : ∀ k, kept k → e'.voices[k] = e.voices[k]
  runsOn : ∀ k, ¬kept k → RunsOn c e.voices[k] e'.voices[k]

section Pools

variable {c : Config} {kept : Fin 6 → Prop} {e e' : Engine} (draws : Draws)

/-- A voice that runs on adds as much to the mix as one that is deactivated. -/
theorem SplitPool.mix_eq (h : SplitPool c kept e e') (hn : c.num.carrier = .rational) (p : Vector NUM 26) (b : NUM)
    (m : ModFrame) (mix : NUM) (k : Fin 6) :
    slotMix (voiceSample c p b draws m) c.num.add e'.voices mix k =
      slotMix (voiceSample c p b draws m) c.num.add e.voices mix k := by
  by_cases hk : kept k
  case pos => exact slotMix_congr _ _ (h.same k hk) mix
  case neg =>
    have hrun := h.runsOn k hk
    have hsilent : (voiceSample c p b draws m k e.voices[k]).2 = 0 := voiceFrame_silent_of_idle hn hrun.idle p b _ m
    rw [slotMix, slotMix, if_neg (Bool.eq_false_iff.mp hrun.inactive), if_pos hrun.active, hsilent,
      Numerics.add_of_rational hn, add_zero]

theorem SplitPool.runActive (h : SplitPool c kept e e') (p : Vector NUM 26) (b : NUM) (m : ModFrame) (k : Fin 6) :
    (kept k → (runActive (voiceSample c p b draws m) e'.voices)[k] =
        (runActive (voiceSample c p b draws m) e.voices)[k]) ∧
      (¬kept k → RunsOn c (runActive (voiceSample c p b draws m) e.voices)[k]
        (runActive (voiceSample c p b draws m) e'.voices)[k]) := by
  refine ⟨fun hk => ?_, fun hk => ?_⟩
  · rw [runActive_getElem, runActive_getElem, h.same k hk]
  · have hrun := h.runsOn k hk
    rw [runActive_getElem, runActive_getElem, if_pos hrun.active,
      if_neg (Bool.eq_false_iff.mp hrun.inactive)]
    exact runsOn_voiceFrame hrun p b _ m

/-- One frame keeps the difference of the two engines and yields the same output. -/
theorem splitPool_engineFrame (hn : c.num.carrier = .rational) (e e' : Engine) (t : Nat) (h : SplitPool c kept e e') :
    SplitPool c kept (engineFrame c draws e t).1 (engineFrame c draws e' t).1 ∧
      (engineFrame c draws e t).2 = (engineFrame c draws e' t).2 := by
  have hmix (m : ModFrame) : slots.foldl (slotMix (voiceSample c e.params e.bendSemi draws m) c.num.add e'.voices) 0 =
      slots.foldl (slotMix (voiceSample c e.params e.bendSemi draws m) c.num.add e.voices) 0 :=
    List.foldl_ext _ _ _ fun mix k _ => h.mix_eq draws hn _ _ m mix k
  have hvoices := h.runActive draws e.params e.bendSemi
  rw [engineFrame_eq, engineFrame_eq, ← h.rest]
  simp only [hmix]
  exact ⟨⟨rfl, fun k => (hvoices _ k).1, fun k => (hvoices _ k).2⟩, trivial⟩

end Pools

theorem endOfBlock_getElem (c : Config) (e : Engine) (k : Fin 6) :
    (endOfBlock c e).voices[k] = checkActive c e.voices[k] := Vector.getElem_map _ _

/-- The check at the end of a block leaves an engine as it is but for the voices that are deactivated. -/
theorem splitPool_endOfBlock (c : Config) (e : Engine) :
    SplitPool c (fun k => checkActive c e.voices[k] = e.voices[k]) e (endOfBlock c e) where
  rest := rfl
  same k h := (endOfBlock_getElem c e k).trans h
  runsOn k h := by
    rw [endOfBlock_getElem]
    cases ha : (e.voices[k]).active with
    | false => exact absurd (checkActive_of_inactive ha c) h
    | true =>
      by_cases hidle : (currentEnv e.voices[k]).stage = .idle
      · rw [checkActive_of_idle ha hidle]
        exact runsOn_endedVoice ha hidle
      · exact absurd (checkActive_of_live hidle c) h

/-! ## The block in two parts -/

/-- Two parts of a block leave what the whole block leaves but for the voices, and a voice too unless it was deactivated
by the first part; then all but the value of its PWM-depth smoother. -/
structure SplitBlock (e first second whole : Engine) : Prop where
  rest : { second with voices := whole.voices } = whole
  same : ∀ k : Fin 6, (e.voices[k]).active = false ∨ (first.voices[k]).active = true →
    second.voices[k] = whole.voices[k]
  voices : ∀ k : Fin 6, second.voices[k] = { whole.voices[k] with
    pwmSm := { (whole.voices[k]).pwmSm with y := (second.voices[k]).pwmSm.y } }

theorem SplitPool.checked {c : Config} {kept : Fin 6 → Prop} {e e' : Engine} (h : SplitPool c kept e e') :
    { endOfBlock c e' with voices := (endOfBlock c e).voices } = endOfBlock c e ∧
    (∀ k : Fin 6, kept k → (endOfBlock c e').voices[k] = (endOfBlock c e).voices[k]) ∧
    ∀ k : Fin 6, (endOfBlock c e').voices[k] = { (endOfBlock c e).voices[k] with
      pwmSm := { ((endOfBlock c e).voices[k]).pwmSm with y := ((endOfBlock c e').voices[k]).pwmSm.y } } := by
  refine ⟨?_, fun k hk => ?_, fun k => ?_⟩
  · rw [← h.rest]
    rfl
  · rw [endOfBlock_getElem, endOfBlock_getElem, h.same k hk]
  · by_cases hk : kept k
    · rw [endOfBlock_getElem, endOfBlock_getElem, h.same k hk]
    · rw [endOfBlock_getElem, endOfBlock_getElem]
      exact (h.runsOn k hk).checked

theorem scanBlock_engineFrame_active (c : Config) (draws : Draws) (e : Engine) (ts : List Nat) (k : Fin 6) :
    ((scanBlock (engineFrame c draws) e ts).1.voices[k]).active = (e.voices[k]).active := by
  refine scanBlock_induct (f := engineFrame c draws) (P := fun u => (u.voices[k]).active = (e.voices[k]).active)
    (fun u t hu => ?_) e ts rfl
  rw [engineFrame_eq]
  exact (runActive_voiceSample_active c _ _ _ _ _ k).trans hu

theorem renderBlock_split {c : Config} (hn : c.num.carrier = .rational) (draws : Draws) (t a b : Nat) (e : Engine) :
    (renderBlock c draws t (a + b) e).out =
        (renderBlock c draws t a e).out ++ (renderBlock c draws (t + a) b (renderBlock c draws t a e).eng).out ∧
      SplitBlock e (renderBlock c draws t a e).eng (renderBlock c draws (t + a) b (renderBlock c draws t a e).eng).eng
        (renderBlock c draws t (a + b) e).eng := by
  simp only [renderBlock_eq_renderByFrame, renderByFrame, ← List.range'_append_1, scanBlock_append]
  have hactive := scanBlock_engineFrame_active c draws e (List.range' t a)
  generalize (scanBlock (engineFrame c draws) e (List.range' t a)).1 = e' at hactive ⊢
  obtain ⟨hsplit, hout⟩ := scanBlock_rel (f := engineFrame c draws) (g := engineFrame c draws)
    (splitPool_engineFrame draws hn) (splitPool_endOfBlock c e') (List.range' (t + a) b)
  obtain ⟨hrest, hsame, hvoices⟩ := hsplit.checked
  refine ⟨by rw [hout], hrest, fun k hk => hsame k ?_, hvoices⟩
  rw [endOfBlock_getElem, ← hactive k] at hk
  rcases hk with hinactive | hlive
  · exact checkActive_of_inactive hinactive c
  · by_contra hne
    have hrun := (splitPool_endOfBlock c e').runsOn k hne
    rw [endOfBlock_getElem] at hrun
    exact Bool.false_ne_true (hrun.inactive.symm.trans hlive)

/-- What a `RENDER` with an instance leaves, but for the response. -/
structure Rendered (n : Nat) (s t : State) : Prop where
  cfg : t.cfg = s.cfg
  instValid : t.instValid = true
  eng : t.eng = (renderBlock s.cfg Config.rand s.frameNo n s.eng).eng
  volume : t.eng.volume = s.eng.volume
  frameNo : t.frameNo = s.frameNo + n
  freeNo : t.freeNo = s.freeNo
  cmdPort : t.cmdPort = s.cmdPort
  pcmPort : t.pcmPort =
    s.pcmPort ++ pcmFrames s.cfg s.eng.volume (renderBlock s.cfg Config.rand s.frameNo n s.eng).out

theorem exec_render_rendered {s : State} (hs : s.instValid = true) {b : Nat} (hb : b ≤ 256) :
    ∃ t, exec (.render b) s = .next t ∧ Rendered b s t := by
  refine ⟨_, exec_render_of_valid hs b, ?_⟩
  rw [frameCount_of_le hb]
  exact {
    cfg := by rw [State.respond_cfg, renderFrames_cfg]
    instValid := by rw [State.respond_instValid, renderFrames_instValid, hs]
    eng := by rw [State.respond_eng, renderFrames_eng]
    volume := by rw [State.respond_eng, renderFrames_volume]
    frameNo := by rw [State.respond_frameNo, renderFrames_frameNo]
    freeNo := by rw [State.respond_freeNo, renderFrames_freeNo]
    cmdPort := by rw [State.respond_cmdPort, renderFrames_cmdPort]
    pcmPort := by rw [State.respond_pcmPort, renderFrames_pcmPort] }

/-- States are compared field by field, so that the renderer is never evaluated. -/
theorem state_eq {s t : State} (hcfg : s.cfg = t.cfg) (hvalid : s.instValid = t.instValid) (heng : s.eng = t.eng)
    (hframe : s.frameNo = t.frameNo) (hfree : s.freeNo = t.freeNo) (hcmd : s.cmdPort = t.cmdPort)
    (hrsp : s.rspPort = t.rspPort) (hpcm : s.pcmPort = t.pcmPort) : s = t := by
  cases s
  cases t
  simp_all only

/-- Settles O36: the frames of the second part are run side by side on the voices checked after the first part and on
the voices that run on. -/
theorem splitBlockRendersTheSame : Obligations.SplitBlockRendersTheSame := by
  intro a b s hs hn hab
  obtain ⟨t, hexect, ht⟩ := exec_render_rendered hs (b := a) (by omega)
  obtain ⟨u, hexecu, hu⟩ := exec_render_rendered ht.instValid (b := b) (by omega)
  obtain ⟨w, hexecw, hw⟩ := exec_render_rendered hs hab
  obtain ⟨hout, hsplit⟩ := renderBlock_split hn Config.rand s.frameNo a b s.eng
  rw [← ht.eng, ← ht.frameNo] at hout hsplit
  have heng : u.eng = (renderBlock s.cfg Config.rand t.frameNo b t.eng).eng := ht.cfg ▸ hu.eng
  rw [← heng, ← hw.eng] at hsplit
  refine ⟨t, u, w, hexect, hexecu, hexecw, ?_, fun k => ⟨hsplit.same k, hsplit.voices k⟩⟩
  refine state_eq (hu.cfg.trans (ht.cfg.trans hw.cfg.symm)) (hu.instValid.trans hw.instValid.symm) hsplit.rest ?_
    (hu.freeNo.trans (ht.freeNo.trans hw.freeNo.symm)) (hu.cmdPort.trans (ht.cmdPort.trans hw.cmdPort.symm)) rfl ?_
  · show u.frameNo = w.frameNo
    rw [hu.frameNo, ht.frameNo, hw.frameNo, Nat.add_assoc]
  · show u.pcmPort = w.pcmPort
    rw [hu.pcmPort, ht.pcmPort, hw.pcmPort, hout, ht.cfg, ht.volume]
    simp only [pcmFrames, List.map_append, List.append_assoc]

end Sys2Proof.Proofs

/-! SUPPORT. `PRESET` (R98, R385, R386): the 26 sub-commands one after another, twice. -/

namespace Sys2Proof.Proofs

open Sys2Proof.Machine

/-! ## The effect of an index, part by part (R350) -/

/-- A change of the engine that does the same to every voice, and changes the shared smoothers and the LFO apart. -/
def ActsByParts (f : Engine → Engine) : Prop :=
  ∃ (g : Voice → Voice) (m : SharedSm → SharedSm) (l : LfoState → LfoState), ∀ e,
    f e = { e with voices := e.voices.map g, sm := m e.sm, lfo := l e.lfo }

theorem actsByParts_mapVoices (g : Voice → Voice) : ActsByParts (·.mapVoices g) := ⟨g, id, id, fun _ => rfl⟩

theorem actsByParts_mapSm (m : SharedSm → SharedSm) : ActsByParts (·.mapSm m) :=
  ⟨id, m, id, fun e => by rw [Vector.map_id]; rfl⟩

theorem actsByParts_lfo (l : LfoState → LfoState) : ActsByParts fun e => { e with lfo := l e.lfo } :=
  ⟨id, id, l, fun e => by rw [Vector.map_id]; rfl⟩

theorem actsByParts_paramEffect (k : Fin 26) (c : Config) (old x : NUM) : ActsByParts (paramEffect k c old x) := by
  unfold paramEffect ActsByParts
  split
  case h_1 | h_2 | h_3 | h_4 | h_5 | h_6 => exact actsByParts_mapVoices _
  case h_7 | h_8 | h_9 | h_10 | h_11 | h_12 | h_13 => exact actsByParts_mapSm _
  case h_14 =>
    unfold effectLfoTrigMode
    split
    · exact actsByParts_lfo id
    · exact actsByParts_lfo fun _ => lfoShutdown c
  case h_15 => exact actsByParts_lfo id

/-! ## The engine as one slot sees it

What an effect does to the voice of one slot it does in an engine where every slot holds that voice, and there the
fan-out targets agree with some registers. -/

/-- The engine with the registers `r`, and the voice of one slot in all of them. Irreducible, so that it is not compared
with the engine it is made of register by register. -/
@[irreducible] def slotEngine (r : Fin 26 → NUM) (j : Fin 6) (e : Engine) : Engine :=
  { e with params := Vector.ofFn r, voices := Vector.replicate 6 e.voices[j] }

theorem slotEngine_voice (r : Fin 26 → NUM) (j : Fin 6) (e : Engine) (i : Fin 6) :
    (slotEngine r j e).voices[i] = e.voices[j] := by
  simp [slotEngine]

theorem slotEngine_registers (r : Fin 26 → NUM) (j : Fin 6) (e : Engine) : registers (slotEngine r j e) = r := by
  funext i
  simp [registers, slotEngine]

theorem slotEngine_sm (r : Fin 26 → NUM) (j : Fin 6) (e : Engine) : (slotEngine r j e).sm = e.sm := by rw [slotEngine]

theorem slotEngine_lfo (r : Fin 26 → NUM) (j : Fin 6) (e : Engine) : (slotEngine r j e).lfo = e.lfo := by
  rw [slotEngine]

/-- The targets of the voice of a slot, and of the shared smoothers, agree with the registers `r`. -/
def SlotFed (r : Fin 26 → NUM) (j : Fin 6) (e : Engine) : Prop := TargetsFed r (slotEngine r j e)

theorem slotFed_of_targets {r : Fin 26 → NUM} {j : Fin 6} {e : Engine} (hv : VoiceTargets r e.voices[j])
    (hm : SharedTargets r e.sm) : SlotFed r j e :=
  ⟨fun i => by rw [slotEngine_voice]; exact hv, by rw [slotEngine_sm]; exact hm⟩

/-- A setting whose tag selects the PWM source. -/
def pwmSetting : PwmSrc → NUM
  | .manual => 0
  | .lfoModulated => 1
  | .envelopeModulated => 2

theorem pwmSrcOfTag_pwmSetting (src : PwmSrc) : pwmSrcOfTag (tag (pwmSetting src) 3) = src := by
  cases src <;> decide +kernel

/-- The settings a voice and the shared smoothers are headed for. -/
def settingsOf (v : Voice) (m : SharedSm) (i : Fin 26) : NUM :=
  match i.val with
  | 2 => v.pwmSm.t
  | 3 => pwmSetting v.pwmSrc
  | 4 => v.osc.saw.t
  | 5 => v.osc.pulse.t
  | 6 => v.osc.sub.t
  | 7 => v.osc.noise.t
  | 9 => m.pitchMod.t
  | 10 => m.cutoff.t
  | 11 => m.res.t
  | 12 => m.envMod.t
  | 13 => m.lfoMod.t
  | 14 => m.kbdMod.t
  | 15 => m.bendMod.t
  | _ => 0

theorem slotFed_settingsOf (j : Fin 6) (e : Engine) : SlotFed (settingsOf e.voices[j] e.sm) j e :=
  slotFed_of_targets ⟨rfl, (pwmSrcOfTag_pwmSetting _).symm, rfl, rfl, rfl, rfl⟩ ⟨rfl, rfl, rfl, rfl, rfl, rfl, rfl⟩

section Effect

variable {k : Fin 26} {c : Config} {r : Fin 26 → NUM} {j : Fin 6} {e : Engine}

/-- What an effect does to the voice of a slot does not depend on the other voices, nor on the registers. -/
theorem paramEffect_slotEngine (old x : NUM) :
    paramEffect k c old x (slotEngine r j e) = slotEngine r j (paramEffect k c old x e) := by
  obtain ⟨g, m, l, hparts⟩ := actsByParts_paramEffect k c old x
  rw [hparts, hparts]
  simp [slotEngine]

theorem slotFed_paramEffect (h : SlotFed r j e) (old x : NUM) :
    SlotFed (Function.update r k x) j (paramEffect k c old x e) := by
  have hfed := targetsFed_paramEffect h x k c old
  rw [paramEffect_slotEngine] at hfed
  exact slotFed_of_targets (slotEngine_voice r j _ 0 ▸ hfed.voices 0) (slotEngine_sm r j _ ▸ hfed.sm)

/-- The effect of the setting a slot is fed does nothing to it. -/
theorem slotEngine_paramEffect_self (h : SlotFed r j e) :
    slotEngine r j (paramEffect k c (r k) (r k) e) = slotEngine r j e := by
  let s : State := { State.reset with cfg := c, instValid := true, eng := slotEngine r j e }
  have hr : registers s.eng = r := slotEngine_registers r j e
  have hself := paramEffect_self (s := s) rfl ((targetsAgree_iff s).mpr fun _ => hr.symm ▸ h) k
  have hk : s.eng.params[k] = r k := congrFun hr k
  rw [hk] at hself
  rw [← paramEffect_slotEngine]
  exact hself

end Effect

/-- The effect of a setting that every slot is fed does nothing. -/
theorem paramEffect_of_slotFed {k : Fin 26} {c : Config} {x : NUM} {e : Engine}
    (h : ∀ j, ∃ r, SlotFed r j e ∧ r k = x) : paramEffect k c x x e = e := by
  obtain ⟨g, m, l, hparts⟩ := actsByParts_paramEffect k c x x
  have hslot (j : Fin 6) : g e.voices[j] = e.voices[j] ∧ m e.sm = e.sm ∧ l e.lfo = e.lfo := by
    obtain ⟨r, hr, rfl⟩ := h j
    have hself := slotEngine_paramEffect_self (k := k) (c := c) hr
    have hvoice := congrArg (fun u : Engine => u.voices[j]) hself
    have hsm := congrArg Engine.sm hself
    have hlfo := congrArg Engine.lfo hself
    simp only [slotEngine_voice, slotEngine_sm, slotEngine_lfo, hparts] at hvoice hsm hlfo
    exact ⟨by simpa using hvoice, hsm, hlfo⟩
  have hvoices : e.voices.map g = e.voices := pool_ext fun j => (Vector.getElem_map _ _).trans (hslot j).1
  rw [hparts, hvoices, (hslot 0).2.1, (hslot 0).2.2]

/-! ## One sub-command of a preset -/

/-- A sub-command on an engine: a NaN changes nothing (R350, R385). -/
def writeParam (c : Config) (k : Fin 26) (x : Option NUM) (e : Engine) : Engine :=
  match x with
  | some x => paramEngine c k (paramEffect k) x e
  | none => e

theorem exec_writeParam {k : Fin 26} {v : Word32} {i : Instr} (hi : paramInstr k v = some i) {s : State}
    (hs : s.instValid = true) :
    ∃ t, exec i s = .next t ∧ t.instValid = true ∧ t.cfg = s.cfg ∧
      t.eng = writeParam s.cfg k (numOperand v 0 (paramHi k)) s.eng := by
  obtain ⟨i', hi', hexec⟩ := paramInstr_exec k v
  obtain rfl : i = i' := Option.some.inj (hi.symm.trans hi')
  rw [hexec, paramWith, withInstance_of_valid hs]
  cases hx : numOperand v 0 (paramHi k) with
  | none => rw [withNum_of_none hx]; exact ⟨_, rfl, hs, rfl, rfl⟩
  | some x => rw [withNum_of_some hx]; exact ⟨_, rfl, hs, rfl, rfl⟩

theorem paramEngine_registers (c : Config) (k : Fin 26) (x : NUM) (e : Engine) :
    registers (paramEngine c k (paramEffect k) x e) = Function.update (registers e) k x := by
  obtain ⟨g, m, l, hparts⟩ := actsByParts_paramEffect k c e.params[k] x
  rw [paramEngine, hparts, ← registers_setParam]
  rfl

/-- The first `n` registers of a preset are written: each holds its value and has been fed to every target, and the
others are as in `e₀`. -/
structure Applied (x : Fin 26 → Option NUM) (e₀ : Engine) (n : Nat) (e : Engine) : Prop where
  written : ∀ i : Fin 26, i < n → registers e i = (x i).getD (registers e₀ i)
  waiting : ∀ i : Fin 26, n ≤ i → registers e i = registers e₀ i
  fed : ∀ j, ∃ r, SlotFed r j e ∧ ∀ i : Fin 26, i < n → ∀ y, x i = some y → r i = y

theorem applied_zero (x : Fin 26 → Option NUM) (e : Engine) : Applied x e 0 e where
  written i hi := absurd hi (Nat.not_lt_zero i)
  waiting _ _ := rfl
  fed j := ⟨_, slotFed_settingsOf j e, fun i hi => absurd hi (Nat.not_lt_zero i)⟩

theorem slotFed_setParam {r : Fin 26 → NUM} {j : Fin 6} {e : Engine} (h : SlotFed r j e) (k : Fin 26) (x : NUM) :
    SlotFed r j (e.setParam k x) := by
  have heq : slotEngine r j (e.setParam k x) = slotEngine r j e := by simp [slotEngine, Engine.setParam]
  rw [SlotFed, heq]
  exact h

/-- An index below the next one is the present one or an earlier one. -/
theorem eq_or_lt_of_lt_succ {i k : Fin 26} (h : (i : Nat) < k + 1) : i = k ∨ (i : Nat) < k :=
  (Nat.lt_succ_iff_lt_or_eq.mp h).symm.imp_left Fin.ext

/-- The next sub-command writes its register and no earlier one. -/
theorem applied_succ {x : Fin 26 → Option NUM} {e₀ e : Engine} {k : Fin 26} (h : Applied x e₀ k e) (c : Config) :
    Applied x e₀ (k + 1) (writeParam c k (x k) e) := by
  cases hx : x k with
  | none =>
    refine ⟨fun i hi => ?_, fun i hi => h.waiting i (by omega), fun j => ?_⟩
    · rcases eq_or_lt_of_lt_succ hi with rfl | hlt
      · rw [hx, writeParam, h.waiting i le_rfl, Option.getD_none]
      · exact h.written i hlt
    · obtain ⟨r, hr, hfed⟩ := h.fed j
      refine ⟨r, hr, fun i hi y hy => ?_⟩
      rcases eq_or_lt_of_lt_succ hi with rfl | hlt
      · exact absurd (hx.symm.trans hy) (Option.some_ne_none y).symm
      · exact hfed i hlt y hy
  | some z =>
    have hregisters : registers (writeParam c k (some z) e) = Function.update (registers e) k z :=
      paramEngine_registers c k z e
    refine ⟨fun i hi => ?_, fun i hi => ?_, fun j => ?_⟩
    · rw [hregisters]
      rcases eq_or_lt_of_lt_succ hi with rfl | hlt
      · rw [Function.update_self, hx, Option.getD_some]
      · rw [Function.update_of_ne (by omega), h.written i hlt]
    · rw [hregisters, Function.update_of_ne (by omega), h.waiting i (by omega)]
    · obtain ⟨r, hr, hfed⟩ := h.fed j
      refine ⟨Function.update r k z, slotFed_paramEffect (slotFed_setParam hr k z) _ z, fun i hi y hy => ?_⟩
      rcases eq_or_lt_of_lt_succ hi with rfl | hlt
      · rw [Function.update_self]
        exact Option.some.inj (hx.symm.trans hy)
      · rw [Function.update_of_ne (by omega), hfed i hlt y hy]

/-- Where the whole preset has been applied, each of its sub-commands does nothing. -/
theorem writeParam_of_applied {x : Fin 26 → Option NUM} {e₀ e : Engine} (h : Applied x e₀ 26 e) (c : Config)
    (k : Fin 26) : writeParam c k (x k) e = e := by
  cases hx : x k with
  | none => rfl
  | some z =>
    have hk : e.params[k] = z := by
      have hwritten := h.written k k.isLt
      rwa [hx, Option.getD_some] at hwritten
    have hself : e.setParam k z = e := hk ▸ setParam_self e k
    rw [writeParam, paramEngine, hself, hk]
    refine paramEffect_of_slotFed fun j => ?_
    obtain ⟨r, hr, hfed⟩ := h.fed j
    exact ⟨r, hr, hfed k k.isLt z hx⟩

/-! ## The whole preset -/

/-- A property of the number of sub-commands run so far that each of them carries on holds when all have run. -/
theorem runAll_presetFrom {vs : Vector Word32 26} {P : Nat → State → Prop}
    (hstep : ∀ (k : Fin 26) (i : Instr), paramInstr k vs[k] = some i →
      ∀ s, P k s → ∃ t, exec i s = .next t ∧ P (k + 1) t) {n : Nat} (hn : n ≤ 26) :
    ∀ {s}, P n s → ∃ t, runAll (presetFrom n (vs.toList.drop n)) s = .next t ∧ P 26 t := by
  induction hn using Nat.decreasingInduction with
  | self =>
    intro s h
    have hnone : vs.toList.drop 26 = [] := List.drop_eq_nil_of_le (by simp)
    exact ⟨s, by rw [hnone, presetFrom, runAll], h⟩
  | of_succ k hk ih =>
    intro s h
    have hnext : vs.toList.drop k = vs[k] :: vs.toList.drop (k + 1) := by
      rw [List.drop_eq_getElem_cons (by simpa using hk), Vector.getElem_toList]
    obtain ⟨i, hi⟩ := paramInstr_of_le (Nat.le_of_lt_succ hk) vs[k]
    obtain ⟨t, hexec, ht⟩ := hstep ⟨k, hk⟩ i hi s h
    obtain ⟨u, hrun, hu⟩ := ih ht
    refine ⟨u, ?_, hu⟩
    rw [hnext, presetFrom, hi]
    exact (runAll_cons hexec).trans hrun

/-- The settings of a preset as operands; a NaN has no value (R385). -/
def presetValues (vs : Vector Word32 26) (k : Fin 26) : Option NUM := numOperand vs[k] 0 (paramHi k)

/-- A preset run on an engine with an instance: what each of its sub-commands carries on holds of the engine it
leaves. -/
theorem runAll_preset {vs : Vector Word32 26} {c : Config} {P : Nat → Engine → Prop}
    (hstep : ∀ (k : Fin 26) (e : Engine), P k e → P (k + 1) (writeParam c k (presetValues vs k) e))
    {s : State} (hs : s.instValid = true) (hc : s.cfg = c) (h : P 0 s.eng) :
    ∃ t, runAll (preset vs) s = .next t ∧ t.instValid = true ∧ t.cfg = c ∧ P 26 t.eng := by
  refine runAll_presetFrom (P := fun n t => t.instValid = true ∧ t.cfg = c ∧ P n t.eng) (fun k i hi s h => ?_)
    (Nat.zero_le 26) ⟨hs, hc, h⟩
  obtain ⟨hs, rfl, hP⟩ := h
  obtain ⟨t, hexec, hvalid, hcfg, heng⟩ := exec_writeParam hi hs
  exact ⟨t, hexec, hvalid, hcfg, heng ▸ hstep k s.eng hP⟩

/-- Settles O32: each sub-command of the second run finds its register written and its targets fed. -/
theorem presetIsIdempotent : Obligations.PresetIsIdempotent := by
  intro s vs hs
  obtain ⟨t, hrun, htvalid, htcfg, happlied⟩ := runAll_preset (vs := vs) (P := Applied (presetValues vs) s.eng)
    (fun k e h => applied_succ h s.cfg) hs rfl (applied_zero _ s.eng)
  obtain ⟨u, hagain, -, -, heng⟩ := runAll_preset (vs := vs) (P := fun _ e => e = t.eng)
    (fun k e he => he ▸ writeParam_of_applied happlied s.cfg k) htvalid htcfg rfl
  exact ⟨t, u, hrun, hagain, fun i => happlied.written i i.isLt, heng, htvalid⟩

end Sys2Proof.Proofs

/-! SUPPORT. Scenario A under the reference configuration (R342). -/

namespace Sys2Proof.Proofs

open Sys2Proof.Machine

/-! ## Draws that are all 0

The reference engine takes no draw that is heard, so it can be run on draws that are all 0; on those the number of a
frame makes no difference. -/

/-- Draws that are all 0. -/
def zeroDraws : Draws := fun _ _ => 0

theorem engineFrame_zeroDraws (c : Config) (e : Engine) (t t' : Nat) :
    engineFrame c zeroDraws e t = engineFrame c zeroDraws e t' := by
  rw [engineFrame_eq, engineFrame_eq]
  rfl

/-- A unit that makes no difference between its inputs. -/
theorem scanBlock_of_indifferent {σ α β : Type} {f : σ → α → σ × β} (hf : ∀ s a a', f s a = f s a') (s : σ)
    {as as' : List α} (h : as.length = as'.length) : scanBlock f s as = scanBlock f s as' := by
  induction as generalizing s as' with
  | nil => rw [List.length_eq_zero_iff.mp h.symm]
  | cons a as ih =>
    cases as' with
    | nil => cases h
    | cons a' as' =>
      have htail : as.length = as'.length := Nat.succ.inj h
      rw [scanBlock_cons, scanBlock_cons, hf s a a', ih _ htail]

theorem renderBlock_zeroDraws (c : Config) (t t' n : Nat) (e : Engine) :
    renderBlock c zeroDraws t n e = renderBlock c zeroDraws t' n e := by
  have hlength : (List.range' t n).length = (List.range' t' n).length := by
    rw [List.length_range', List.length_range']
  rw [renderBlock_eq_renderByFrame, renderBlock_eq_renderByFrame, renderByFrame, renderByFrame,
    scanBlock_of_indifferent (engineFrame_zeroDraws c) e hlength]

/-! ## Scenario A -/

/-- Note 60 struck at full velocity on a fresh engine. -/
def scenarioEngine : Engine :=
  noteOnEngine .reference (initialEngine .reference) (transposedNote (initialEngine .reference).octave 60) 1

/-- The first eight frames on draws that are all 0, evaluated. -/
theorem scenarioEngine_frames :
    pcmFrames .reference scenarioEngine.volume (renderBlock .reference zeroDraws 0 8 scenarioEngine).out =
        [0x00000000, 0xFFFBFFFB, 0xFFEDFFED, 0xFFD2FFD2, 0xFFA8FFA8, 0xFF6DFF6D, 0xFF24FF24, 0xFECCFECC] ∧
      ((renderBlock .reference zeroDraws 0 8 scenarioEngine).eng.voices[0]).active = true := by
  decide +kernel

theorem scenarioEngine_noiseless (j : Fin 6) : (scenarioEngine.voices[j]).osc.noise = .zero := by
  revert j
  decide +kernel

theorem block_eq {r r' : Block} (heng : r.eng = r'.eng) (hout : r.out = r'.out) : r = r' := by
  cases r
  cases r'
  simp_all only

/-- The block is the same under any draws and from any frame number. -/
theorem renderBlock_scenarioEngine (draws : Draws) (t n : Nat) :
    renderBlock .reference draws t n scenarioEngine = renderBlock .reference zeroDraws 0 n scenarioEngine := by
  obtain ⟨hout, -, heng⟩ := renderBlock_draws (c := .reference) (.inl rfl) draws zeroDraws t n scenarioEngine_noiseless
  rw [renderBlock_zeroDraws .reference 0 t]
  exact block_eq (heng rfl) hout

/-- `CREATE` and the note leave the engine of the scenario, whatever the state before. -/
theorem runAll_create_noteon {s : State} (hcfg : s.cfg = .reference) :
    ∃ t, (∀ is, runAll (.create :: .noteon 60 0x3F800000 :: is) s = runAll is t) ∧ t.instValid = true ∧
      t.cfg = .reference ∧ t.eng = scenarioEngine ∧ t.pcmPort = s.pcmPort := by
  have hvel : numOperand 0x3F800000 0 1 = some 1 := by decide +kernel
  obtain ⟨t, hcreate⟩ : ∃ t, exec .create s = .next t := ⟨_, rfl⟩
  obtain ⟨heng, hvalid⟩ := exec_create_leaves hcreate
  have htcfg : t.cfg = s.cfg := (exec_answers hcreate).cfg
  have hpcm : t.pcmPort = s.pcmPort := by cases hcreate; rfl
  have hnote := exec_noteon_of_some (note := 60) hvalid hvel
  refine ⟨_, fun is => (runAll_cons hcreate).trans (runAll_cons hnote), hvalid, htcfg.trans hcfg, ?_, hpcm⟩
  rw [State.ok_eng, State.setEng_eng, heng, htcfg, hcfg, scenarioEngine]

/-- Settles O39: the eight frames are those of the engine of the scenario on draws that are all 0. -/
theorem scenarioAFirstFrames : Obligations.ScenarioAFirstFrames := by
  intro s hcfg
  obtain ⟨t, hrun, hvalid, htcfg, heng, hpcm⟩ := runAll_create_noteon hcfg
  obtain ⟨u, hrender, hu⟩ := exec_render_rendered hvalid (b := 8) (by decide)
  have hueng := hu.eng
  have hupcm := hu.pcmPort
  rw [htcfg, heng, renderBlock_scenarioEngine] at hueng hupcm
  refine ⟨u, (hrun _).trans (runAll_cons hrender), ?_, ?_⟩
  · rw [hupcm, hpcm, scenarioEngine_frames.1]
  · rw [hueng]
    exact scenarioEngine_frames.2

end Sys2Proof.Proofs
